-- ==== Sys2Proof/Word.lean ====
section
/-! DEFINITION. The bit-vector widths of LA-CORE (spec/00_scope.md R6, R7): every value is an unsigned bit vector
of a stated width, bit 0 the least significant. -/

namespace Sys2Proof

/-- A sample word, and every 16-bit register and operand: `SW = 16` (R6). Bit `i` is the level of channel `i` (R7). -/
abbrev Word := BitVec 16

/-- An index into the ring: `AW = 10` bits, so every value is a legal index (R6, R51). -/
abbrev Index := BitVec 10

/-- A post-trigger count: `CW = 11` bits, so that it can hold 1024 (R6). -/
abbrev Count := BitVec 11

/-- A command word `{id[15:0], value[15:0]}` (R71). -/
abbrev CommandWord := BitVec 32

/-- The tick period `{period_hi, period_lo}`: `PW = 32` bits (R6, R31). -/
abbrev Period := BitVec 32

end Sys2Proof
end

