-- ==== Sys2Proof/Syntax.lean ====
section
/-! DEFINITION. The operation set of LA-CORE (spec/30_encoding.md R70): one constructor per row of
spec/opcode_table.json, and the input pins that select the operations of a step (spec/10_state.md R40). -/

namespace Sys2Proof

/-- The eleven operations of R70. The eight commands carry every bit of their command word: the `value` that START,
STOP and NOP ignore (R76) and the `id` that makes a word a NOP (R75) are kept here, so that no bit of an encoding is
lost in the syntax; the meanings ignore them. -/
inductive Instr where
  /-- NOP (R156): id 0 and every id above 7; both fields are ignored. -/
  | nop (id value : Word)
  /-- START (R133): id 1; the value is ignored. -/
  | start (value : Word)
  /-- STOP (R134): id 2; the value is ignored. -/
  | stop (value : Word)
  /-- SET_POLARITY v (R151): id 3. -/
  | setPolarity (v : Word)
  /-- SET_MASK v (R152): id 4. -/
  | setMask (v : Word)
  /-- SET_PERIOD_HI v (R153): id 5. -/
  | setPeriodHi (v : Word)
  /-- SET_PERIOD_LO v (R154): id 6. -/
  | setPeriodLo (v : Word)
  /-- SET_WINDOW v (R155): id 7. -/
  | setWindow (v : Word)
  /-- RESET (R200): selected by the pin `rst`. -/
  | reset
  /-- TICK x (R117): a tick strobe with the sample `x` on `sample_in`. -/
  | tick (x : Word)
  /-- PEEK i (R91): the read port with `i` on `rd_addr`. -/
  | peek (i : Index)
  deriving DecidableEq, Repr

/-- The input pins of one step (R40), all sampled at the rising edge of `clk`; `clk` itself is the step (R9). -/
structure Pins where
  /-- `rst`: synchronous reset, active high. -/
  rst : Bool
  /-- `tick`: the one-cycle strobe of the Tick Source. -/
  tick : Bool
  /-- `sample_in[15:0]`: the 16 input lines, bit `i` being channel `i`. -/
  sampleIn : Word
  /-- `cmd_valid`: a command is presented in this cycle. -/
  cmdValid : Bool
  /-- `cmd_word[31:0]`: `{id[15:0], value[15:0]}`. -/
  cmdWord : CommandWord
  /-- `rd_addr[9:0]`: the index for PEEK. -/
  rdAddr : Index
  deriving DecidableEq, Repr, Inhabited

/-- The pseudo-operations of R81. -/
inductive Pseudo where
  /-- ARM. -/
  | arm
  /-- DISARM. -/
  | disarm
  /-- REARM, as the Streamer issues it when its cursor reaches `N` (R143). -/
  | rearm
  /-- SET_PERIOD P, for a 32-bit `P`. -/
  | setPeriod (p : Period)
  deriving DecidableEq, Repr

end Sys2Proof
end

