-- ==== Sys2Proof/WellFormed.lean ====
section
/-! DEFINITION. Which terms of `Instr` stand for an encoding. The operand widths are in the types, and no encoding is
illegal (spec/30_encoding.md R75), so one check is left: a NOP is a word whose id is none of the seven commands'. -/

namespace Sys2Proof

/-- R74, R75: an id that selects no command, which is 0 or any value from 8 to 65535. -/
def nopId (id : Word) : Bool := id == 0 || decide (7 < id.toNat)

/-- An instruction is well formed when some pins or some command word present it. -/
def Instr.wf : Instr → Bool
  | .nop id _ => nopId id
  | .start _ => true
  | .stop _ => true
  | .setPolarity _ => true
  | .setMask _ => true
  | .setPeriodHi _ => true
  | .setPeriodLo _ => true
  | .setWindow _ => true
  | .reset => true
  | .tick _ => true
  | .peek _ => true

end Sys2Proof
end

