-- ==== Sys2Proof/Decode.lean ====
section
/-! DEFINITION. From pins to operations (spec/30_encoding.md): the command word, the pin vector, the operations that one
cycle's pins select in the order a step applies them; then the encoder. Decoding is total and refuses nothing: no
encoding is illegal (R75). -/

namespace Sys2Proof

/-- The field `id = cmd_word[31:16]` (R71). -/
def cmdId (cw : CommandWord) : Word := cw.extractLsb' 16 16

/-- The field `value = cmd_word[15:0]` (R71). -/
def cmdValue (cw : CommandWord) : Word := cw.extractLsb' 0 16

/-- The decoder of R83: ids 1 to 7 select the row of R74, every other id is a NOP. -/
def decodeCommand (cw : CommandWord) : Instr :=
  if cmdId cw = 1#16 then .start (cmdValue cw)
  else if cmdId cw = 2#16 then .stop (cmdValue cw)
  else if cmdId cw = 3#16 then .setPolarity (cmdValue cw)
  else if cmdId cw = 4#16 then .setMask (cmdValue cw)
  else if cmdId cw = 5#16 then .setPeriodHi (cmdValue cw)
  else if cmdId cw = 6#16 then .setPeriodLo (cmdValue cw)
  else if cmdId cw = 7#16 then .setWindow (cmdValue cw)
  else .nop (cmdId cw) (cmdValue cw)

/-- The three PIN rows of R83. -/
inductive PinRow where
  /-- RESET, pattern `1xxx`. -/
  | reset
  /-- TICK, pattern `011x`. -/
  | tick
  /-- PEEK alone, pattern `xxxx` where neither of the others applies. -/
  | peek
  deriving DecidableEq, Repr

/-- The row a pin vector (bit 3 `rst`, bit 2 `tick`, bit 1 the pre-step `run`, bit 0 `cmd_valid`) selects, by the match
and mask of R83: RESET `0x8` under `0x8`, TICK `0x6` under `0xE`. -/
def decodePinVector (v : BitVec 4) : PinRow :=
  if v &&& 0x8#4 = 0x8#4 then .reset else if v &&& 0xE#4 = 0x6#4 then .tick else .peek

/-- The pin vector of R77: `rst tick run cmd_valid`, leftmost in the high bit; `run` is the pre-step state bit. -/
def pinVector (run : Bool) (p : Pins) : BitVec 4 :=
  BitVec.ofBool p.rst ++ BitVec.ofBool p.tick ++ BitVec.ofBool run ++ BitVec.ofBool p.cmdValid

/-- The command a cycle presents, if it presents one (R71). -/
def decodePresented (p : Pins) : List Instr :=
  if p.cmdValid then [decodeCommand p.cmdWord] else []

/-- The operations one cycle performs, in the order a step applies them (R77, R176): PEEK reads the pre-step contents
(R57(b)) and so comes first; RESET excludes the rest; a gated tick comes before the command. -/
def decodeCycle (run : Bool) (p : Pins) : List Instr :=
  .peek p.rdAddr ::
    match decodePinVector (pinVector run p) with
    | .reset => [.reset]
    | .tick => .tick p.sampleIn :: decodePresented p
    | .peek => decodePresented p

/-- The instruction of a table row, from the bits the table gives it: a row of at most one byte is a pin vector
(R83, format PIN), whose operand buses are then all zero; a longer row is a command word (format CMD). -/
def decodeTableWord (nbits w : Nat) : Option Instr :=
  if nbits ≤ 8 then
    match decodePinVector (BitVec.ofNat 4 w) with
    | .reset => some .reset
    | .tick => some (.tick 0#16)
    | .peek => some (.peek 0#10)
  else some (decodeCommand (BitVec.ofNat 32 w))

/-- `{id, value}` (R71). -/
def commandWord (id value : Word) : CommandWord := id ++ value

/-- The command word of a command (R74); the three pin-selected operations have none (R77). -/
def encodeCommand : Instr → Option CommandWord
  | .nop id value => some (commandWord id value)
  | .start value => some (commandWord 1#16 value)
  | .stop value => some (commandWord 2#16 value)
  | .setPolarity v => some (commandWord 3#16 v)
  | .setMask v => some (commandWord 4#16 v)
  | .setPeriodHi v => some (commandWord 5#16 v)
  | .setPeriodLo v => some (commandWord 6#16 v)
  | .setWindow v => some (commandWord 7#16 v)
  | .reset => none
  | .tick _ => none
  | .peek _ => none

/-- Pins that select nothing but the read of index 0 (R77, last row). -/
def pinsIdle : Pins :=
  { rst := false, tick := false, sampleIn := 0#16, cmdValid := false, cmdWord := 0#32, rdAddr := 0#10 }

/-- Pins that present the command word `cw` and no tick. -/
def pinsCommand (cw : CommandWord) : Pins := { pinsIdle with cmdValid := true, cmdWord := cw }

/-- Pins with a tick strobe and the sample `x`, and no command. -/
def pinsTick (x : Word) : Pins := { pinsIdle with tick := true, sampleIn := x }

/-- Pins that hold the reset pin and nothing else. -/
def pinsReset : Pins := { pinsIdle with rst := true }

/-- Pins that present the index `i` to the read port and nothing else. -/
def pinsPeek (i : Index) : Pins := { pinsIdle with rdAddr := i }

/-- The encoder: the pins that present an instruction by itself (R74, R77). -/
def encode : Instr → Pins
  | .nop id value => pinsCommand (commandWord id value)
  | .start value => pinsCommand (commandWord 1#16 value)
  | .stop value => pinsCommand (commandWord 2#16 value)
  | .setPolarity v => pinsCommand (commandWord 3#16 v)
  | .setMask v => pinsCommand (commandWord 4#16 v)
  | .setPeriodHi v => pinsCommand (commandWord 5#16 v)
  | .setPeriodLo v => pinsCommand (commandWord 6#16 v)
  | .setWindow v => pinsCommand (commandWord 7#16 v)
  | .reset => pinsReset
  | .tick x => pinsTick x
  | .peek i => pinsPeek i

/-- The expansions of R81. START, STOP and the rest assemble with `value = 0` (R80). -/
def expandPseudo : Pseudo → List Instr
  | .arm => [.start 0#16]
  | .disarm => [.stop 0#16]
  | .rearm => [.start 0#16]
  | .setPeriod p => [.setPeriodHi (p.extractLsb' 16 16), .setPeriodLo (p.extractLsb' 0 16)]

end Sys2Proof
end

