-- ==== Sys2Proof/Config.lean ====
section
/-! DEFINITION. The implementation parameters of LA-CORE (spec/00_scope.md R6) and the free inputs (R15). A parameter
the spec gives has its value here; one it calls OPEN is an opaque constant, so that nothing proved about the model
depends on what it is. -/

namespace Sys2Proof

/-- `N = 1024`, the number of sample words in the ring (R6). -/
def Config.ringSize : Nat := 1024

/-- The greatest value of the 11-bit post-trigger counter, where its increment saturates (R25, R114). -/
def Config.counterMax : Nat := 2047

/-- `MASK_RESET` (R6). -/
def Config.maskReset : Word := 0x0001#16

/-- `POLARITY_RESET` (R6). -/
def Config.polarityReset : Word := 0x0001#16

/-- `POST_COUNT_RESET` (R6). -/
def Config.postCountReset : Count := 300#11

/-- `PERIOD_RESET`, OPEN: any 32-bit value (R6, spec/92_eei_decisions.md D15, spec/93_implementation_defined.md U2). -/
opaque Config.periodReset : Period

/-- `BUF_RESET`, OPEN: any function from the indices to the 16-bit words (R6, D14, U1). -/
opaque Config.bufReset : Index → Word

/-- The environment's free choice of the input pins (R15, D30): the pins of the cycle with the given number, where the
model's queue of inputs says nothing of it. A free value: see notes/assumptions/3.md. -/
opaque Config.freePins : Nat → Pins

end Sys2Proof
end

