-- ==== Sys2Proof/Machine/Memory.lean ====
section
/-! DEFINITION. The ring memory `buf` (spec/10_state.md R21, spec/20_memory.md R50 to R56): 1024 locations, each one
indivisible 16-bit word, held as plain data. -/

namespace Sys2Proof.Machine

/-- The ring memory: its (index, word) cells. The cell is a word and not a byte, because the word is the smallest
addressable unit and no access sees half of one (R52). Canonical form: `Memory.wf`. See notes/assumptions/2.md. -/
abbrev Memory := List (Nat × Word)

/-- What an index that is not listed reads as: the power-up contents `BUF_RESET` (R57(a), U1). In canonical form every
index is listed. -/
def Memory.unlisted (i : Index) : Word := Config.bufReset i

/-- `MemRead(i, 16)` (R8). -/
def Memory.read : Memory → Index → Word
  | [], i => Memory.unlisted i
  | c :: m, i => if c.1 = i.toNat then c.2 else Memory.read m i

/-- `MemWrite(i, 16, v)` (R8): the cell of `i` holds `v`, in its place among the rising indices. -/
def Memory.write : Memory → Index → Word → Memory
  | [], i, v => [(i.toNat, v)]
  | c :: m, i, v =>
    if c.1 < i.toNat then c :: Memory.write m i v
    else if c.1 = i.toNat then (i.toNat, v) :: m
    else (i.toNat, v) :: c :: m

/-- The canonical form: every index from 0 to 1023 is listed once, in rising order. As no index is left out, equal
memories are equal lists, and no entry can repeat what an unlisted index reads as. -/
def Memory.wf (m : Memory) : Bool := decide (m.map Prod.fst = List.range Config.ringSize)

/-- The power-up cells of the `k` indices from `n` on. -/
def Memory.powerUpCells : Nat → Nat → Memory
  | 0, _ => []
  | k + 1, n => (n, Config.bufReset (BitVec.ofNat 10 n)) :: Memory.powerUpCells k (n + 1)

/-- The contents when reset is first released after power-up: `BUF_RESET[i]` at every `i` (R39, D14). -/
def Memory.powerUp : Memory := Memory.powerUpCells Config.ringSize 0

end Sys2Proof.Machine
end

