-- ==== Sys2Proof/Machine/State.lean ====
section
/-! DEFINITION. The state of LA-CORE: the eleven items of spec/10_state.md R20, and three fields of the model's own
(what the read port drove, the queue of inputs, the cycle number). -/

namespace Sys2Proof.Machine

/-- The Capture State (R24). -/
inductive CaptureState where
  /-- ARMED: sampling and waiting for FIRE (R130). -/
  | armed
  /-- TRIGGERED: FIRE has been seen, counting `post_count` more samples (R130). -/
  | triggered
  /-- COMPLETE: capture over, buffer frozen, waiting for the host (R130). -/
  | complete
  deriving DecidableEq, Repr

/-- Reasons a step stops with a fault. There is none: LA-CORE raises no exception, trap or fault of any kind (R170),
so the type is empty. Safe: it can only make the model go on where the spec says the block goes on. -/
inductive Fault where
  deriving DecidableEq, Repr

/-- Reasons a step is refused. -/
inductive Refusal where
  /-- Raised by no arm of `exec`: every row of the opcode table has its meaning. The host's interface asks for the
  constructor. Safe: a refusal proves nothing about the block. -/
  | notModelled (mnemonic : String)
  deriving DecidableEq, Repr

/-- The state of the block (R20), then the model's own three fields. -/
structure State where
  /-- `buf[0..N-1]`: the Ring Buffer (R21). -/
  buf : Memory
  /-- `w`: the write index, 10 bits (R22). -/
  w : Index
  /-- `cur`: the sample latch, 16 bits (R23). -/
  cur : Word
  /-- `post_counter`: the Post-Trigger Counter, 11 bits, saturating (R25). -/
  postCounter : Count
  /-- `state`: the Capture State (R24). -/
  state : CaptureState
  /-- `run`: the capture gate, one bit (R26). -/
  run : Bool
  /-- `mask`, 16 bits (R27). -/
  mask : Word
  /-- `polarity`, 16 bits (R28). -/
  polarity : Word
  /-- `post_count`, 11 bits (R29). -/
  postCount : Count
  /-- `period_hi`, 16 bits (R30). -/
  periodHi : Word
  /-- `period_lo`, 16 bits (R31). -/
  periodLo : Word
  /-- The model's own: the word the read port drove on `rd_data` at the last PEEK. `rd_data` is an output and no state
  of the block (R41); it is held here so that PEEK's result can be seen in what `exec` answers. -/
  rdData : Word
  /-- The model's own: the input pins of the cycles to come, this cycle's first (R9, R15). -/
  inputs : List Pins
  /-- The model's own: the number of the cycle, which selects the free pins of a cycle the queue says nothing of. -/
  cycle : Nat
  deriving DecidableEq, Repr

/-- Right after the first reset (R39, R200): the spec's value in every register, `BUF_RESET` in the ring, `PERIOD_RESET`
in the period; and no inputs placed, cycle 0, 0 on the model's copy of `rd_data` (notes/assumptions/3.md, 4.md). -/
def State.reset : State where
  buf := Memory.powerUp
  w := 0#10
  cur := 0x0000#16
  postCounter := 0#11
  state := .armed
  run := false
  mask := Config.maskReset
  polarity := Config.polarityReset
  postCount := Config.postCountReset
  periodHi := Config.periodReset.extractLsb' 16 16
  periodLo := Config.periodReset.extractLsb' 0 16
  rdData := 0#16
  inputs := []
  cycle := 0

end Sys2Proof.Machine
end

