-- ==== Sys2Proof/Machine/Flags.lean ====
section
/-! DEFINITION. The derived conditions (spec/10_state.md R32, R33; spec/41_trigger_evaluator.md). The block has no flags:
FIRE is combinational, and no operation writes a flag (R32). -/

namespace Sys2Proof.Machine

/-- `changed = current XOR prev` (R100). -/
def fireChanged (current prev : Word) : Word := current ^^^ prev

/-- `matched = NOT (current XOR polarity)`, a 16-bit complement (R100, R104). -/
def fireMatched (current polarity : Word) : Word := ~~~(current ^^^ polarity)

/-- `hit = changed AND mask AND matched` (R100). -/
def fireHit (current prev mask polarity : Word) : Word :=
  fireChanged current prev &&& mask &&& fireMatched current polarity

/-- `FIRE(current, prev, mask, polarity)`: the OR-reduction of `hit` (R100). -/
def fire (current prev mask polarity : Word) : Bool := fireHit current prev mask polarity != 0#16

/-- `complete_o`: the level `state = COMPLETE` (R33). -/
def isComplete (c : CaptureState) : Bool := c == .complete

/-- The post-trigger count after one more tick: `min(post_counter + 1, 2047)` (R114, R25). -/
def countUp (c : Count) : Count := BitVec.ofNat 11 (min (c.toNat + 1) Config.counterMax)

/-- `w_next = (w + 1) AND (N - 1)`, ten bits (R90, R92). -/
def nextIndex (w : Index) : Index := (w + 1#10) &&& BitVec.ofNat 10 (Config.ringSize - 1)

end Sys2Proof.Machine
end

