-- ==== Sys2Proof/Machine/Operands.lean ====
section
/-! DEFINITION. The operand forms and checks of the commands (spec/30_encoding.md R72, R73; spec/44_config_commands.md). -/

namespace Sys2Proof.Machine

/-- SET_MASK's check: `v != 0` (R152). -/
def maskAccepted (v : Word) : Bool := v != 0#16

/-- SET_WINDOW's check: `1 <= v <= N` on the whole unsigned 16-bit `v` (R155, R72). -/
def windowAccepted (v : Word) : Bool := decide (1 ≤ v.toNat ∧ v.toNat ≤ Config.ringSize)

/-- `v[10:0]`, what an accepted SET_WINDOW stores (R155). -/
def windowCount (v : Word) : Count := v.extractLsb' 0 11

/-- `{period_hi, period_lo}` (R31, R73). -/
def periodOf (hi lo : Word) : Period := hi ++ lo

end Sys2Proof.Machine
end

