-- ==== Sys2Proof/Machine/Ops.lean ====
section
/-! DEFINITION. The named operations over the state that the meanings share. Each writes the fields its docstring names
and no other. The block takes no exception (spec/60_exceptions.md R170); what stands in that place is the entry into
COMPLETE and the way back (R177, R178), which are `State.enterComplete` and `State.rearm`. -/

namespace Sys2Proof.Machine

/-- `buf[i]` (R91). -/
def State.ringWord (s : State) (i : Index) : Word := Memory.read s.buf i

/-- Step 1 of the Sampler, the latch: `cur <- x` (R111). -/
def State.latch (x : Word) (s : State) : State := { s with cur := x }

/-- PUSH(x): `buf[w] <- x`, then `w <- (w + 1) AND (N - 1)` (R90). -/
def State.push (x : Word) (s : State) : State :=
  { s with buf := Memory.write s.buf s.w x, w := nextIndex s.w }

/-- Step 3 of the Sampler in ARMED (R113): if FIRE is true, `post_counter <- 0` and `state <- TRIGGERED`; if false,
neither changes. -/
def State.trigger (fired : Bool) (s : State) : State :=
  { s with
    postCounter := if fired then 0#11 else s.postCounter
    state := if fired then .triggered else s.state }

/-- `post_counter <- c`. -/
def State.setPostCounter (c : Count) (s : State) : State := { s with postCounter := c }

/-- The entry into COMPLETE: `state <- COMPLETE`, `run <- 0` (R177). -/
def State.enterComplete (s : State) : State := { s with state := .complete, run := false }

/-- The way back from COMPLETE: `state <- ARMED`, `post_counter <- 0` (R178; START opens the gate). -/
def State.rearm (s : State) : State := { s with state := .armed, postCounter := 0#11 }

/-- `run <- 1` (R26). -/
def State.openGate (s : State) : State := { s with run := true }

/-- `run <- 0` (R26). -/
def State.closeGate (s : State) : State := { s with run := false }

/-- `polarity <- v` (R151). -/
def State.setPolarity (v : Word) (s : State) : State := { s with polarity := v }

/-- `mask <- v` (R152). -/
def State.setMask (v : Word) (s : State) : State := { s with mask := v }

/-- `post_count <- c` (R155). -/
def State.setPostCount (c : Count) (s : State) : State := { s with postCount := c }

/-- `period_hi <- v` (R153). -/
def State.setPeriodHi (v : Word) (s : State) : State := { s with periodHi := v }

/-- `period_lo <- v` (R154). -/
def State.setPeriodLo (v : Word) (s : State) : State := { s with periodLo := v }

/-- `rd_data = d` (R91): the model's record of the output, no state of the block. -/
def State.driveReadPort (d : Word) (s : State) : State := { s with rdData := d }

/-- RESET_STATE (R200): every register at its reset value; `buf` is not written. -/
def State.resetRegisters (s : State) : State :=
  { s with
    state := .armed, run := false, postCounter := 0#11, w := 0#10, cur := 0x0000#16,
    mask := Config.maskReset, polarity := Config.polarityReset, postCount := Config.postCountReset,
    periodHi := Config.periodReset.extractLsb' 16 16, periodLo := Config.periodReset.extractLsb' 0 16 }

/-- Step 3 of the Sampler in TRIGGERED (R114): count, then compare the new count with `post_count` for equality. -/
def State.countPost (s : State) : State :=
  let counted := s.setPostCounter (countUp s.postCounter)
  if counted.postCounter = counted.postCount then counted.enterComplete else counted

/-- Steps 2 to 4 of the Sampler, after the latch (R112 to R116): the reference word is `buf[w]` before the push
(spec/90_conflicts.md C1), and in COMPLETE there is no push (C4). -/
def State.dispatchTick (x : Word) (s : State) : State :=
  match s.state with
  | .armed => (s.trigger (fire x (s.ringWord s.w) s.mask s.polarity)).push x
  | .triggered => s.countPost.push x
  | .complete => s

/-- One Sampler invocation, TICK(x) with the gate open (R117). -/
def State.sampler (x : Word) (s : State) : State := (s.latch x).dispatchTick x

/-- The input pins of this cycle: the first of the queue, or the environment's free choice where it is empty (R15). -/
def State.pins (s : State) : Pins :=
  match s.inputs with
  | p :: _ => p
  | [] => Config.freePins s.cycle

/-- The clock edge: this cycle's pins are used up. -/
def State.advance (s : State) : State := { s with inputs := s.inputs.tail, cycle := s.cycle + 1 }

/-- This cycle's pins become `p`, in place of what the queue held for it. -/
def State.present (p : Pins) (s : State) : State := { s with inputs := p :: s.inputs.tail }

/-- The instruction of an opcode-table row placed on the pins of this cycle (R77, R83). A row of at most one byte is a
pin vector: its bit 3 is `rst` and its bit 2 `tick`, the buses are zero and no command goes with it; for the TICK row the
vector's bit 1 is the pre-step `run`, which is therefore set. A longer row is a command word. -/
def State.presentTableWord (nbits word : Nat) (s : State) : State :=
  if nbits ≤ 8 then
    match decodePinVector (BitVec.ofNat 4 word) with
    | .reset => s.present pinsReset
    | .tick => (s.present (pinsTick 0#16)).openGate
    | .peek => s.present (pinsPeek 0#10)
  else s.present (pinsCommand (BitVec.ofNat 32 word))

end Sys2Proof.Machine
end

