-- ==== Sys2Proof/Machine/Controller.lean ====
section
/-! DEFINITION. START and STOP (spec/43_capture_controller.md). -/

namespace Sys2Proof.Machine

/-- START (R133): from COMPLETE it re-arms; in every state it opens the gate (spec/90_conflicts.md C5). -/
def execStart (_value : Word) (s : State) : Host.Outcome State Fault Refusal :=
  .next (if s.state = .complete then s.rearm else s).openGate

/-- STOP (R134): `post_counter` keeps whatever count it had. -/
def execStop (_value : Word) (s : State) : Host.Outcome State Fault Refusal := .next s.enterComplete

end Sys2Proof.Machine
end

