-- ==== Sys2Proof/Machine/Sampler.lean ====
section
/-! DEFINITION. The pin-selected operations: TICK (spec/42_sampler_tick.md), PEEK (spec/40_ring_buffer.md) and RESET
(spec/70_reset_and_hazards.md). -/

namespace Sys2Proof.Machine

/-- TICK x (R117) behind its gate (R110): with `run = 0` the strobe is discarded and leaves no trace (R120). -/
def execTick (x : Word) (s : State) : Host.Outcome State Fault Refusal :=
  .next (if s.run then s.sampler x else s)

/-- PEEK i (R91): `rd_data = buf[i]`; no state of the block is written (R55). -/
def execPeek (i : Index) (s : State) : Host.Outcome State Fault Refusal :=
  .next (s.driveReadPort (s.ringWord i))

/-- RESET (R200): the ring is not written (R202). -/
def execReset (s : State) : Host.Outcome State Fault Refusal := .next s.resetRegisters

end Sys2Proof.Machine
end

