-- ==== Sys2Proof/Machine/Settings.lean ====
section
/-! DEFINITION. The configuration commands and NOP (spec/44_config_commands.md). Each is accepted in every state and with
`run` at either value; a value that fails its check leaves everything as it is (R150). -/

namespace Sys2Proof.Machine

/-- NOP (R156). -/
def execNop (_id _value : Word) (s : State) : Host.Outcome State Fault Refusal := .next s

/-- SET_POLARITY v (R151). -/
def execSetPolarity (v : Word) (s : State) : Host.Outcome State Fault Refusal := .next (s.setPolarity v)

/-- SET_MASK v (R152): rejected silently when `v = 0`. -/
def execSetMask (v : Word) (s : State) : Host.Outcome State Fault Refusal :=
  .next (if maskAccepted v then s.setMask v else s)

/-- SET_PERIOD_HI v (R153): every `v` is accepted, and the ticks stop. -/
def execSetPeriodHi (v : Word) (s : State) : Host.Outcome State Fault Refusal :=
  .next (s.setPeriodHi v).closeGate

/-- SET_PERIOD_LO v (R154): every `v` is accepted, and the ticks stop. -/
def execSetPeriodLo (v : Word) (s : State) : Host.Outcome State Fault Refusal :=
  .next (s.setPeriodLo v).closeGate

/-- SET_WINDOW v (R155): rejected silently unless `1 <= v <= 1024`. -/
def execSetWindow (v : Word) (s : State) : Host.Outcome State Fault Refusal :=
  .next (if windowAccepted v then s.setPostCount (windowCount v) else s)

end Sys2Proof.Machine
end

