-- ==== Sys2Proof/Machine/Dispatch.lean ====
section
/-! DEFINITION. One arm per operation of the opcode table. -/

namespace Sys2Proof.Machine

def exec (i : Instr) (s : State) : Host.Outcome State Fault Refusal :=
  match i with
  | .nop id value => Sys2Proof.Machine.execNop id value s
  | .start value => Sys2Proof.Machine.execStart value s
  | .stop value => Sys2Proof.Machine.execStop value s
  | .setPolarity v => Sys2Proof.Machine.execSetPolarity v s
  | .setMask v => Sys2Proof.Machine.execSetMask v s
  | .setPeriodHi v => Sys2Proof.Machine.execSetPeriodHi v s
  | .setPeriodLo v => Sys2Proof.Machine.execSetPeriodLo v s
  | .setWindow v => Sys2Proof.Machine.execSetWindow v s
  | .reset => Sys2Proof.Machine.execReset s
  | .tick x => Sys2Proof.Machine.execTick x s
  | .peek a => Sys2Proof.Machine.execPeek a s

end Sys2Proof.Machine
end

