-- ==== Sys2Proof/Machine/Cycle.lean ====
section
/-! DEFINITION. One cycle of the block: the STEP relation of spec/60_exceptions.md R176, which composes the operations
that the cycle's pins select. -/

namespace Sys2Proof.Machine

/-- Operations one after another, each on the state the one before it left (R176). -/
def execAll : List Instr → State → Host.Outcome State Fault Refusal
  | [], s => .next s
  | i :: rest, s =>
    match exec i s with
    | .next t => execAll rest t
    | .fault r => .fault r
    | .refused r => .refused r

/-- STEP (R176, R77): the operations selected by this cycle's pins and the pre-step `run`, in their order. -/
def runCycle (s : State) : Host.Outcome State Fault Refusal :=
  execAll (decodeCycle s.run s.pins) s.advance

end Sys2Proof.Machine
end

