-- ==== Sys2Proof/Machine/Step.lean ====
section
/-! DEFINITION. The step function, and how the host places one instruction on the pins of the next step. -/

namespace Sys2Proof.Machine

/-- One step: one clock cycle (R9). -/
def step (s : State) : Host.Outcome State Fault Refusal := runCycle s

/-- The state whose next step presents the opcode-table row with the bits `w` (R77, R83). -/
def State.withFetchWord (s : State) (nbits w : Nat) : State := s.presentTableWord nbits w

end Sys2Proof.Machine
end

