-- ==== Sys2Proof/Machine/Ports.lean ====
section
/-! DEFINITION. The output pins (spec/10_state.md R41) and the state codes (spec/30_encoding.md R78). Each output is a
function of the state held at the start of the cycle and, for `rd_data`, of `rd_addr`. -/

namespace Sys2Proof.Machine

/-- The output pins of one cycle (R41). -/
structure OutPins where
  /-- `rd_data[15:0] = buf[rd_addr]`. -/
  rdData : Word
  /-- `state_o[1:0]`. -/
  stateO : BitVec 2
  /-- `complete_o`. -/
  completeO : Bool
  /-- `run_o`, the Tick Source's enable. -/
  runO : Bool
  /-- `w_o[9:0]`. -/
  wO : Index
  /-- `period_o[31:0]`. -/
  periodO : Period
  deriving DecidableEq, Repr

/-- The code of `state` (R78). -/
def stateCode : CaptureState → BitVec 2
  | .armed => 0#2
  | .triggered => 1#2
  | .complete => 2#2

/-- The state a 2-bit register is read as; code 3, which no rule produces, is read as COMPLETE (R78, D23). -/
def stateOfCode (c : BitVec 2) : CaptureState :=
  if c = 0#2 then .armed else if c = 1#2 then .triggered else .complete

/-- The output pins while `rd_addr = i` (R41). -/
def outputs (s : State) (i : Index) : OutPins where
  rdData := s.ringWord i
  stateO := stateCode s.state
  completeO := isComplete s.state
  runO := s.run
  wO := s.w
  periodO := periodOf s.periodHi s.periodLo

end Sys2Proof.Machine
end

