-- ==== Sys2Proof/Safety.lean ====
section
/-! DEFINITION. The terms claims are made in: the invariants of reachable states (spec/70_reset_and_hazards.md, section
5), what a step leaves alone, and what the pins of a cycle are asked for by the host's contract (spec/60_exceptions.md
R190, spec/70_reset_and_hazards.md section 3). -/

namespace Sys2Proof.Safety

open Sys2Proof.Machine

/-- The invariants R216, R217 and R218 of every reachable state. -/
structure ControlInv (s : State) : Prop where
  /-- INV1 (R216): COMPLETE implies `run = 0`. -/
  frozen : s.state = .complete → s.run = false
  /-- INV2 (R217): ARMED implies `post_counter = 0`. -/
  uncounted : s.state = .armed → s.postCounter = 0#11
  /-- INV3 (R218), first half: the mask is never zero. -/
  maskNonzero : s.mask ≠ 0#16
  /-- INV3, second half: `1 <= post_count`. -/
  windowPositive : 1 ≤ s.postCount.toNat
  /-- INV3, second half: `post_count <= 1024`. -/
  windowBounded : s.postCount.toNat ≤ 1024

/-- The invariants, with the model's own: the ring keeps its canonical form. -/
structure BlockInv (s : State) : Prop extends ControlInv s where
  /-- Every index of the ring is listed once, in rising order. -/
  ringCanonical : Memory.wf s.buf = true

/-- INV5 (R220), first half: in TRIGGERED the count has not reached the window. -/
def WindowAhead (s : State) : Prop := s.state = .triggered → s.postCounter.toNat < s.postCount.toNat

/-- Every word of the ring reads as before. -/
def SameRing (s t : State) : Prop := ∀ a : Index, t.ringWord a = s.ringWord a

/-- Every word of the ring but the one at `a` reads as before. -/
def SameRingExcept (a : Index) (s t : State) : Prop := ∀ b : Index, b ≠ a → t.ringWord b = s.ringWord b

/-- The five configuration registers are unchanged (R27 to R31). -/
def SameConfig (s t : State) : Prop :=
  t.mask = s.mask ∧ t.polarity = s.polarity ∧ t.postCount = s.postCount ∧ t.periodHi = s.periodHi ∧
    t.periodLo = s.periodLo

/-- The model's own fields are unchanged. -/
def SameBench (s t : State) : Prop := t.rdData = s.rdData ∧ t.inputs = s.inputs ∧ t.cycle = s.cycle

/-- All eleven items of R20 are unchanged. -/
def SameBlock (s t : State) : Prop :=
  t.buf = s.buf ∧ t.w = s.w ∧ t.cur = s.cur ∧ t.postCounter = s.postCounter ∧ t.state = s.state ∧ t.run = s.run ∧
    SameConfig s t

/-- The registers as a reset leaves them (R39). -/
def ResetRegisters (t : State) : Prop :=
  t.state = .armed ∧ t.run = false ∧ t.postCounter = 0#11 ∧ t.w = 0#10 ∧ t.cur = 0#16 ∧ t.mask = 0x0001#16 ∧
    t.polarity = 0x0001#16 ∧ t.postCount = 300#11 ∧ periodOf t.periodHi t.periodLo = Config.periodReset

/-- The condition of I4 (R101) at a tick with the sample `x`: some channel takes part, differs from its level in the
word about to be overwritten, and is now at its wanted level. -/
def Fires (x : Word) (s : State) : Prop :=
  ∃ i, i < 16 ∧ s.mask.getLsbD i = true ∧ (s.ringWord s.w).getLsbD i ≠ x.getLsbD i ∧
    x.getLsbD i = s.polarity.getLsbD i

/-- The words `xs` pushed one after another, the first first. -/
def pushAll (xs : List Word) (s : State) : State := xs.foldl (fun t x => t.push x) s

/-- A cycle that holds a tick strobe and nothing else; the read port may be at any index. -/
def OnlyTick (p : Pins) : Prop := p.rst = false ∧ p.tick = true ∧ p.cmdValid = false

/-- A cycle with neither a reset nor a command. -/
def NoHost (p : Pins) : Prop := p.rst = false ∧ p.cmdValid = false

/-- A cycle in which the host neither resets nor issues START, the two ways out of COMPLETE. -/
def LeavesFrozen (p : Pins) : Prop := p.rst = false ∧ (p.cmdValid = true → cmdId p.cmdWord ≠ 1#16)

/-- A cycle with no reset and no period command. -/
def LeavesPeriod (p : Pins) : Prop :=
  p.rst = false ∧ (p.cmdValid = true → cmdId p.cmdWord ≠ 5#16 ∧ cmdId p.cmdWord ≠ 6#16)

/-- A cycle that presents the command word `{id, v}` and no reset. -/
def Presents (id v : Word) (p : Pins) : Prop :=
  p.rst = false ∧ p.cmdValid = true ∧ p.cmdWord = commandWord id v

/-- A cycle in which no SET_WINDOW is accepted (the premise of R220). -/
def NoWindowChange (p : Pins) : Prop :=
  p.rst = false → p.cmdValid = true → cmdId p.cmdWord = 7#16 →
    ¬ (1 ≤ (cmdValue p.cmdWord).toNat ∧ (cmdValue p.cmdWord).toNat ≤ 1024)

/-- A cycle in which no SET_MASK is accepted (R152). -/
def NoMaskChange (p : Pins) : Prop :=
  p.rst = false → p.cmdValid = true → cmdId p.cmdWord = 4#16 → cmdValue p.cmdWord = 0#16

/-- A cycle that overwrites `polarity`: a reset or a SET_POLARITY (R28, R39). -/
def WritesPolarity (p : Pins) : Prop := p.rst = true ∨ (p.cmdValid = true ∧ cmdId p.cmdWord = 3#16)

/-- `k` steps of the machine lead from `s` to `t`, none of them a fault or a refusal. -/
def Reaches (k : Nat) (s t : State) : Prop := Host.Core.run Sys2Proof.core k s = .next t

end Sys2Proof.Safety
end

