-- ==== Sys2Proof/Certificates/Slice0/Obligations.lean ====
section
/-! DEFINITION. The statements for the provers. Where a statement rests on a choice of the model and not on a rule, its
docstring says so. In every equation `exec i s = .next { s with … }` the fields not named are those of `s`: the frame,
the ring included. -/

open Sys2Proof Sys2Proof.Machine Sys2Proof.Safety

/-! ### Decoding and encoding -/

/-- R83, R74: the id alone selects the operation, and every id outside 1 to 7 is a NOP. -/
def Obligations.EveryCommandWordDecodesByItsId : Prop :=
  ∀ id v : Word, decodeCommand (commandWord id v) =
    if id = 1 then .start v else if id = 2 then .stop v else if id = 3 then .setPolarity v
    else if id = 4 then .setMask v else if id = 5 then .setPeriodHi v else if id = 6 then .setPeriodLo v
    else if id = 7 then .setWindow v else .nop id v

/-- A few words written out from R74's table and the examples of spec/95_test_vectors.md. -/
def Obligations.WordsOfTheSpecDecode : Prop :=
  decodeCommand 0x00000005#32 = .nop 0 5 ∧ decodeCommand 0xFFFF1234#32 = .nop 0xFFFF 0x1234 ∧
  decodeCommand 0x00010000#32 = .start 0 ∧ decodeCommand 0x0002ABCD#32 = .stop 0xABCD ∧
  decodeCommand 0x0003FFFF#32 = .setPolarity 0xFFFF ∧ decodeCommand 0x00040008#32 = .setMask 8 ∧
  decodeCommand 0x00050001#32 = .setPeriodHi 1 ∧ decodeCommand 0x00062345#32 = .setPeriodLo 0x2345 ∧
  decodeCommand 0x00070400#32 = .setWindow 1024 ∧
  decodePinVector 0b1000#4 = .reset ∧ decodePinVector 0b0110#4 = .tick ∧ decodePinVector 0b0100#4 = .peek

/-- Decode and encode agree on every well-formed operation, with every bit of every operand: the pins that the encoder
writes select that operation, beside the PEEK that every cycle performs (R77; for RESET's cycle that is the model's
reading, notes/assumptions/8.md), and nothing else. The kept `id` and `value` of NOP, START and STOP are the model's
(notes/assumptions/6.md). -/
def Obligations.DecodeOfEncodeIsTheInstruction : Prop :=
  ∀ i : Instr, i.wf = true →
    decodeCycle true (encode i) = (match i with | .peek a => [.peek a] | j => [.peek 0, j]) ∧
    ∀ cw, encodeCommand i = some cw → decodeCommand cw = i

/-- Every one of the 2^32 command words decodes to a well-formed command whose encoding is that word: none is illegal,
and no bit is dropped (R75). That the ignored bits are kept is the model's (notes/assumptions/6.md). -/
def Obligations.EncodeOfDecodeIsTheWord : Prop :=
  ∀ cw : CommandWord, (decodeCommand cw).wf = true ∧ encodeCommand (decodeCommand cw) = some cw

/-- R81, R159: SET_PERIOD P is two commands, after which the exported period is P and the ticks are stopped. -/
def Obligations.SetPeriodExpandsToBothHalves : Prop :=
  ∀ (p : Period) (s : State), ∃ t, execAll (expandPseudo (.setPeriod p)) s = .next t ∧
    t = { s with periodHi := p.extractLsb' 16 16, periodLo := p.extractLsb' 0 16, run := false } ∧
    (∀ i, (outputs t i).periodO = p)

/-! ### The commands -/

/-- R156: id 0 and every id from 8 to 65535 is a NOP, the value is ignored, nothing is written. -/
def Obligations.NopChangesNothing : Prop :=
  ∀ (id value : Word) (s : State), (id = 0 ∨ 8 ≤ id.toNat) →
    decodeCommand (commandWord id value) = .nop id value ∧ exec (.nop id value) s = .next s

/-- R133: START in every state; the second part is its corner case of a step whose gated tick enters COMPLETE. -/
def Obligations.StartOpensTheGateAndRearmsFromComplete : Prop :=
  ∀ (v : Word) (s : State),
    decodeCommand (commandWord 1 v) = .start v ∧
    exec (.start v) s = .next { s with
      run := true
      state := if s.state = .complete then .armed else s.state
      postCounter := if s.state = .complete then 0 else s.postCounter } ∧
    ∀ p rest, s.inputs = p :: rest → Presents 1 v p → p.tick = true → s.run = true → s.state = .triggered →
      min (s.postCounter.toNat + 1) 2047 = s.postCount.toNat →
      ∃ t, step s = .next t ∧ t.state = .armed ∧ t.run = true ∧ t.postCounter = 0 ∧
        t.ringWord s.w = p.sampleIn ∧ t.w = s.w + 1

/-- R134: STOP in every state; the second part is its corner case of a step that also holds a gated tick, which is
applied first with its PUSH. -/
def Obligations.StopEntersCompleteAndClosesTheGate : Prop :=
  ∀ (v : Word) (s : State),
    decodeCommand (commandWord 2 v) = .stop v ∧
    exec (.stop v) s = .next { s with state := .complete, run := false } ∧
    ∀ p rest, s.inputs = p :: rest → Presents 2 v p → p.tick = true → s.run = true → s.state ≠ .complete →
      ∃ t, step s = .next t ∧ t.state = .complete ∧ t.run = false ∧ t.ringWord s.w = p.sampleIn ∧ t.w = s.w + 1

/-- R76: the value of START, STOP and NOP has no influence. -/
def Obligations.IgnoredValuesHaveNoInfluence : Prop :=
  ∀ (v v' id : Word) (s : State), (id = 0 ∨ 8 ≤ id.toNat) →
    exec (decodeCommand (commandWord 1 v)) s = exec (decodeCommand (commandWord 1 v')) s ∧
    exec (decodeCommand (commandWord 2 v)) s = exec (decodeCommand (commandWord 2 v')) s ∧
    exec (decodeCommand (commandWord id v)) s = exec (decodeCommand (commandWord id v')) s

/-- R151. -/
def Obligations.SetPolarityReplacesPolarity : Prop :=
  ∀ (v : Word) (s : State), decodeCommand (commandWord 3 v) = .setPolarity v ∧
    exec (.setPolarity v) s = .next { s with polarity := v }

/-- R152: a zero mask is rejected and leaves everything as it is. -/
def Obligations.SetMaskReplacesANonzeroMask : Prop :=
  ∀ (v : Word) (s : State), decodeCommand (commandWord 4 v) = .setMask v ∧
    exec (.setMask v) s = .next { s with mask := if v = 0 then s.mask else v }

/-- R153: every value is accepted, and `run` is cleared. -/
def Obligations.SetPeriodHiStoresAndStopsTicks : Prop :=
  ∀ (v : Word) (s : State), decodeCommand (commandWord 5 v) = .setPeriodHi v ∧
    exec (.setPeriodHi v) s = .next { s with periodHi := v, run := false }

/-- R154: every value is accepted, and `run` is cleared. -/
def Obligations.SetPeriodLoStoresAndStopsTicks : Prop :=
  ∀ (v : Word) (s : State), decodeCommand (commandWord 6 v) = .setPeriodLo v ∧
    exec (.setPeriodLo v) s = .next { s with periodLo := v, run := false }

/-- R155: accepted exactly for 1 to 1024, and then `post_count` is the number `v`. -/
def Obligations.SetWindowStoresAWindowInRange : Prop :=
  ∀ (v : Word) (s : State), decodeCommand (commandWord 7 v) = .setWindow v ∧
    ∃ t, exec (.setWindow v) s = .next t ∧ t = { s with postCount := t.postCount } ∧
      (1 ≤ v.toNat ∧ v.toNat ≤ 1024 → t.postCount.toNat = v.toNat) ∧
      (v.toNat = 0 ∨ 1024 < v.toNat → t.postCount = s.postCount)

/-! ### Reset -/

/-- R200: a step with `rst = 1` gives every register its reset value whatever else its pins hold, and the ring is not
written. -/
def Obligations.ResetStepSetsEveryRegister : Prop :=
  ∀ (s : State),
    (∃ t, exec .reset s = .next t ∧ ResetRegisters t ∧ SameRing s t ∧ t.buf = s.buf ∧ SameBench s t) ∧
    ∀ p rest, s.inputs = p :: rest → p.rst = true →
      ∃ t, step s = .next t ∧ ResetRegisters t ∧ SameRing s t ∧ t.inputs = rest

/-- R39: the state right after the first reset, `BUF_RESET` and `PERIOD_RESET` being any values, and the state after
any later step with `rst = 1`, which keeps what the ring held. -/
def Obligations.PowerUpStateIsTheResetTable : Prop :=
  ResetRegisters State.reset ∧ (∀ i, State.reset.ringWord i = Config.bufReset i) ∧
    ∀ (s : State) (p : Pins) (rest : List Pins), s.inputs = p :: rest → p.rst = true →
      ∃ t, step s = .next t ∧ ResetRegisters t ∧ SameRing s t

/-- R201: after a reset and until the first command, no cycle changes any of the eleven items, and the status pins are
0. -/
def Obligations.AfterResetOnlyACommandCanChangeTheState : Prop :=
  ∀ (s0 : State) (ps rest : List Pins), (∀ p ∈ ps, NoHost p) →
    ∃ t, Reaches ps.length { s0.resetRegisters with inputs := ps ++ rest } t ∧ SameBlock s0.resetRegisters t ∧
      t.inputs = rest ∧ ∀ i, (outputs t i).runO = false ∧ (outputs t i).completeO = false ∧
        (outputs t i).stateO = 0 ∧ (outputs t i).wO = 0

/-! ### TICK -/

/-- R120: while `run = 0` nothing happens on account of a tick, and nothing of it is remembered: the step is the one
the same pins give without the strobe. The first clause, TICK itself in a state with `run = 0`, is the model's own way
to make the operation total (notes/assumptions/7.md): R117 asks for `run = 1`, and no step runs TICK without it. -/
def Obligations.StrobeWithTheGateClosedIsDropped : Prop :=
  ∀ (x : Word) (s : State), s.run = false →
    exec (.tick x) s = .next s ∧
    ∀ p rest, s.inputs = p :: rest → ∃ t, step s = .next t ∧
      step { s with inputs := { p with tick := false } :: rest } = .next t

/-- R117: the whole of TICK behind an open gate, as one sequence of writes. -/
def Obligations.TickIsTheSamplerSequence : Prop :=
  ∀ (x : Word) (s : State), s.run = true →
    exec (.tick x) s = .next (match s.state with
      | .armed =>
        if fire x (s.ringWord s.w) s.mask s.polarity then
          { s with cur := x, postCounter := 0, state := .triggered, buf := Memory.write s.buf s.w x,
                   w := (s.w + 1) &&& 1023 }
        else { s with cur := x, buf := Memory.write s.buf s.w x, w := (s.w + 1) &&& 1023 }
      | .triggered =>
        if min (s.postCounter.toNat + 1) 2047 = s.postCount.toNat then
          { s with cur := x, postCounter := s.postCount, state := .complete, run := false,
                   buf := Memory.write s.buf s.w x, w := (s.w + 1) &&& 1023 }
        else
          { s with cur := x, postCounter := BitVec.ofNat 11 (min (s.postCounter.toNat + 1) 2047),
                   buf := Memory.write s.buf s.w x, w := (s.w + 1) &&& 1023 }
      | .complete => { s with cur := x })

/-- R113 with the push of R116: a gated tick in ARMED. FIRE is said by I4's condition on single channels.
The reference word is `buf[w]`: under spec/90_conflicts.md C1 (notes/assumptions/10.md). -/
def Obligations.TickInArmedTriggersExactlyOnFire : Prop :=
  ∀ (x : Word) (s : State), s.run = true → s.state = .armed →
    ∃ t, exec (.tick x) s = .next t ∧
      (Fires x s → t.postCounter = 0 ∧ t.state = .triggered) ∧
      (¬ Fires x s → t.postCounter = s.postCounter ∧ t.state = .armed) ∧
      t.cur = x ∧ t.run = true ∧ t.w = s.w + 1 ∧ t.ringWord s.w = x ∧ SameRingExcept s.w s t ∧
      SameConfig s t ∧ SameBench s t

/-- R114 with the push of R116: a gated tick in TRIGGERED. The completing tick still stores its sample. -/
def Obligations.TickInTriggeredCountsAndCompletesOnEquality : Prop :=
  ∀ (x : Word) (s : State), s.run = true → s.state = .triggered →
    ∃ t, exec (.tick x) s = .next t ∧
      t.postCounter.toNat = min (s.postCounter.toNat + 1) 2047 ∧
      (t.postCounter = s.postCount → t.state = .complete ∧ t.run = false) ∧
      (t.postCounter ≠ s.postCount → t.state = .triggered ∧ t.run = true) ∧
      t.cur = x ∧ t.w = s.w + 1 ∧ t.ringWord s.w = x ∧ SameRingExcept s.w s t ∧ SameConfig s t ∧ SameBench s t

/-- R115: the unreachable gated tick in COMPLETE loads the latch and nothing else. -/
def Obligations.TickInCompleteOnlyLatches : Prop :=
  ∀ (x : Word) (s : State), s.run = true → s.state = .complete → exec (.tick x) s = .next { s with cur := x }

/-- R101 (I4): FIRE, channel by channel. -/
def Obligations.FireIffAMaskedChannelReachedItsLevel : Prop :=
  ∀ current prev mask polarity : Word, fire current prev mask polarity = true ↔
    ∃ i, i < 16 ∧ mask.getLsbD i = true ∧ prev.getLsbD i ≠ current.getLsbD i ∧
      current.getLsbD i = polarity.getLsbD i

/-- R103: the result is the OR across the masked channels: FIRE under the union of two masks is the OR of FIRE under
each. -/
def Obligations.FireIsTheOrAcrossMasks : Prop :=
  ∀ current prev m n polarity : Word,
    fire current prev (m ||| n) polarity = (fire current prev m polarity || fire current prev n polarity)

/-- R28: bits of `polarity` where `mask` is 0 have no effect on anything. Two states that differ only there show the
same outputs and step, with any pins, queued or free, to states that agree in everything but `polarity`. A reset or a
SET_POLARITY makes the two registers equal, any other step keeps both; and as long as no SET_MASK is accepted, which may
let the bits in, the states differ again only in bits outside the mask, so the statement goes on from there. -/
def Obligations.UnmaskedPolarityHasNoEffect : Prop :=
  ∀ (s : State) (q : Word), s.mask &&& s.polarity = s.mask &&& q →
    (∀ i, outputs { s with polarity := q } i = outputs s i) ∧
    ∃ t u, step s = .next t ∧ step { s with polarity := q } = .next u ∧ u = { t with polarity := u.polarity } ∧
      (WritesPolarity s.pins → u.polarity = t.polarity) ∧
      (¬ WritesPolarity s.pins → t.polarity = s.polarity ∧ u.polarity = q) ∧
      (NoMaskChange s.pins → t.mask &&& t.polarity = t.mask &&& u.polarity)

/-! ### The ring -/

/-- R91 with its corner cases, R57(b): PEEK answers `buf[i]` and writes no state; an index never pushed answers
`BUF_RESET`; in a step PEEK answers the contents at the start of the step, whatever else the step holds, and a pushed
sample is in the ring from the next step on. That the word stays in the field `rdData` is the model's
(notes/assumptions/4.md); that PEEK also happens in a cycle with `rst = 1` is read from R77's "in every cycle" and is the
model's too (notes/assumptions/8.md). -/
def Obligations.PeekReadsThePreStepContents : Prop :=
  (∀ (i : Index) (s : State), exec (.peek i) s = .next { s with rdData := s.ringWord i }) ∧
  (∀ i : Index, State.reset.ringWord i = Config.bufReset i) ∧
  ∀ (s : State) (p : Pins) (rest : List Pins), s.inputs = p :: rest →
    ∃ t, step s = .next t ∧ t.rdData = s.ringWord p.rdAddr ∧
      (p.rst = false → p.tick = true → s.run = true → s.state ≠ .complete → t.ringWord s.w = p.sampleIn)

/-- R92: the bit-mask is the modulus, and after `k` PUSHes the index has advanced by `k` modulo 1024. -/
def Obligations.WriteIndexAdvancesModuloTheRing : Prop :=
  (∀ w : Index, ((w + 1) &&& 1023).toNat = (w.toNat + 1) % 1024) ∧
  ∀ (xs : List Word) (s : State), (pushAll xs s).w.toNat = (s.w.toNat + xs.length) % 1024

/-- R64 and R93, which the spec marks "[derived: from rule R90 and rule R92]": after the PUSHes `xs`, the word `k`
before the write index is the sample `k` before the last, for the newest `min(p, N)` of them, and the other words are
those the ring held before (at power-up, `BUF_RESET`). -/
def Obligations.RingHoldsTheNewestPushes : Prop :=
  ∀ (xs : List Word) (s : State) (k : Nat), k < 1024 →
    (∀ x, xs.reverse[k]? = some x → (pushAll xs s).ringWord ((pushAll xs s).w - 1 - BitVec.ofNat 10 k) = x) ∧
    (xs.length ≤ k → (pushAll xs s).ringWord ((pushAll xs s).w - 1 - BitVec.ofNat 10 k) =
      s.ringWord ((pushAll xs s).w - 1 - BitVec.ofNat 10 k))

/-! ### One step -/

/-- Where the pins of this cycle present the well-formed operation `i`, the step is the cycle's PEEK, which every
cycle performs on the pre-step contents (R77; in RESET's cycle by notes/assumptions/8.md), and then `exec i` on what that left, the pins being used up. -/
def Obligations.StepRunsThePresentedInstruction : Prop :=
  ∀ (i : Instr) (s : State) (rest : List Pins), i.wf = true → s.inputs = encode i :: rest →
    ∃ s1, exec (.peek (encode i).rdAddr) { s with inputs := rest, cycle := s.cycle + 1 } = .next s1 ∧
      step s = exec i s1

/-- R77, R176: what a step does for every combination of its pins: reset first and alone; otherwise the gated tick,
under the pre-step `run`; then the command on the state the tick left. PEEK on the pre-step contents comes before all of
them, in every cycle (R77); that it does so in a cycle with `rst = 1`, where R77's first row says RESET only, is the
model's reading (notes/assumptions/8.md), and it touches only the model's field `rdData` (notes/assumptions/4.md). -/
def Obligations.StepOrderIsResetThenTickThenCommand : Prop :=
  ∀ (s : State) (p : Pins) (rest : List Pins), s.inputs = p :: rest →
    ∃ s1, exec (.peek p.rdAddr) { s with inputs := rest, cycle := s.cycle + 1 } = .next s1 ∧
      (p.rst = true → step s = exec .reset s1) ∧
      (p.rst = false → ∃ s2,
        (p.tick = true ∧ s.run = true → exec (.tick p.sampleIn) s1 = .next s2) ∧
        (p.tick = false ∨ s.run = false → s2 = s1) ∧
        (p.cmdValid = true → step s = exec (decodeCommand p.cmdWord) s2) ∧
        (p.cmdValid = false → step s = .next s2))

/-- R170: no operation and no step has a failing case, with any pins, queued or free. -/
def Obligations.EveryStepAnswersANextState : Prop :=
  (∀ (i : Instr) (s : State), ∃ t, exec i s = .next t) ∧ ∀ s : State, ∃ t, step s = .next t

/-- R9: a step with no reset, no gated tick and no command leaves the eleven items as they are. -/
def Obligations.IdleStepLeavesTheBlockUnchanged : Prop :=
  ∀ (s : State) (p : Pins) (rest : List Pins), s.inputs = p :: rest → p.rst = false →
    (p.tick = false ∨ s.run = false) → p.cmdValid = false →
    ∃ t, step s = .next t ∧ SameBlock s t ∧ t.inputs = rest

/-- R77, R176: the gate uses the pre-step `run`, so a START does not let the tick of its own step through. -/
def Obligations.StartDoesNotAdmitTheTickOfItsStep : Prop :=
  ∀ (v : Word) (s : State) (p : Pins) (rest : List Pins), s.inputs = p :: rest → Presents 1 v p → s.run = false →
    ∃ t, step s = .next t ∧ t.run = true ∧ t.w = s.w ∧ t.cur = s.cur ∧ SameRing s t ∧
      (s.state ≠ .complete → t.state = s.state ∧ t.postCounter = s.postCounter)

/-- R62, R210: a setting presented in the step of a tick does not reach that tick: what the tick writes is what it
writes in the same step without the command, and the next step's tick has the new value. -/
def Obligations.SettingsDoNotReachTheTickOfTheirStep : Prop :=
  ∀ (id v : Word) (s : State) (p : Pins) (rest : List Pins), (id = 3 ∨ id = 4 ∨ id = 7) → s.inputs = p :: rest →
    Presents id v p →
    ∃ t u, step s = .next t ∧ step { s with inputs := { p with cmdValid := false } :: rest } = .next u ∧
      t.buf = u.buf ∧ t.w = u.w ∧ t.cur = u.cur ∧ t.postCounter = u.postCounter ∧ t.state = u.state ∧
      t.run = u.run ∧
      (id = 3 → t.polarity = v) ∧ (id = 4 → v ≠ 0 → t.mask = v) ∧
      (id = 7 → 1 ≤ v.toNat → v.toNat ≤ 1024 → t.postCount.toNat = v.toNat)

/-- R41 with the codes of R78: the output pins are functions of the state and of `rd_addr`. That the code 3 is never
driven is an inference R78 marks as derived from R132; that it would be read as COMPLETE is decision D23. -/
def Obligations.OutputsAreFunctionsOfTheState : Prop :=
  (∀ (s : State) (i : Index),
    (outputs s i).rdData = s.ringWord i ∧ (outputs s i).runO = s.run ∧ (outputs s i).wO = s.w ∧
    (outputs s i).periodO.extractLsb' 16 16 = s.periodHi ∧ (outputs s i).periodO.extractLsb' 0 16 = s.periodLo ∧
    ((outputs s i).completeO = true ↔ s.state = .complete) ∧
    ((outputs s i).stateO = 0 ↔ s.state = .armed) ∧ ((outputs s i).stateO = 1 ↔ s.state = .triggered) ∧
    ((outputs s i).stateO = 2 ↔ s.state = .complete) ∧ (outputs s i).stateO ≠ 3) ∧
  stateOfCode 3 = .complete ∧ ∀ c, stateOfCode (stateCode c) = c

/-! ### Invariants and whole-machine rules -/

/-- R216, R217 and R218, which the spec marks as derived ("Each invariant below holds after reset and is kept by every
operation"), with the ring's canonical form, which is the model's (notes/assumptions/2.md): every step keeps them,
from every state that has them, with any pins. -/
def Obligations.EveryStepKeepsTheInvariants : Prop :=
  ∀ s t : State, BlockInv s → step s = .next t → BlockInv t

/-- The power-up state has the invariants R216 to R218 (the spec's own inferences) and the ring's canonical form
(notes/assumptions/2.md). -/
def Obligations.PowerUpStateHasTheInvariants : Prop := BlockInv State.reset

/-- R216, R217 and R218, which the spec marks as derived: every state that some sequence of steps from a reset reaches
has them, whatever the ring and the period held and whatever the pins did. -/
def Obligations.EveryReachableStateHasTheInvariants : Prop :=
  ∀ (s0 t : State) (ps : List Pins) (k : Nat),
    Reaches k { s0 with state := .armed, run := false, postCounter := 0, w := 0, cur := 0, mask := 1, polarity := 1,
                        postCount := 300, inputs := ps } t →
    (t.state = .complete → t.run = false) ∧ (t.state = .armed → t.postCounter = 0) ∧ t.mask ≠ 0 ∧
      1 ≤ t.postCount.toNat ∧ t.postCount.toNat ≤ 1024

/-- R220, which the spec marks "[derived: from file `42_sampler_tick.md` rule R117]": while no SET_WINDOW is accepted,
TRIGGERED implies that the count is below the window, and a tick that enters COMPLETE leaves the count equal to it,
whatever command the cycle holds beside the tick. The second clause names the steps in which only a tick can have entered
COMPLETE; the third names the tick itself, a STOP beside it included. -/
def Obligations.CountStaysBelowAnUnchangedWindow : Prop :=
  ∀ (s t : State) (p : Pins) (rest : List Pins), s.inputs = p :: rest → ControlInv s → WindowAhead s →
    NoWindowChange p → step s = .next t →
    WindowAhead t ∧
      (s.state ≠ .complete → t.state = .complete → (p.cmdValid = true → cmdId p.cmdWord ≠ 2) →
        t.postCounter = t.postCount) ∧
      ∀ u, p.rst = false → p.tick = true → s.run = true → exec (.tick p.sampleIn) s = .next u → s.state ≠ .complete →
        u.state = .complete → u.postCounter = u.postCount ∧ (t.state = .complete → t.postCounter = t.postCount)

/-- R132: "No other event changes `state`." Each change of the Capture State is one of the table's events. -/
def Obligations.OnlyListedEventsChangeTheCaptureState : Prop :=
  ∀ (i : Instr) (s t : State), exec i s = .next t →
    t.state = s.state ∨
    (i = .reset ∧ t.state = .armed) ∨
    (s.state = .armed ∧ t.state = .triggered ∧ t.postCounter = 0 ∧ t.run = s.run ∧
      ∃ x, i = .tick x ∧ s.run = true ∧ Fires x s) ∨
    (s.state = .triggered ∧ t.state = .complete ∧ t.postCounter = s.postCount ∧ t.run = false ∧
      ∃ x, i = .tick x ∧ s.run = true ∧ s.postCount.toNat = min (s.postCounter.toNat + 1) 2047) ∨
    (s.state = .complete ∧ t.state = .armed ∧ t.postCounter = 0 ∧ t.run = true ∧ ∃ v, i = .start v) ∨
    (s.state ≠ .complete ∧ t.state = .complete ∧ t.postCounter = s.postCounter ∧ t.run = false ∧ ∃ v, i = .stop v)

/-- R137, whose last sentence the spec marks as derived: every writer of `run`, the value written, and nothing else;
entering COMPLETE stops the ticks (I3), and `run` becomes 1 only by START, which never leaves COMPLETE. -/
def Obligations.OnlyListedOperationsWriteTheGate : Prop :=
  (∀ (i : Instr) (s t : State), exec i s = .next t →
    t.run = match i with
      | .reset => false
      | .start _ => true
      | .stop _ => false
      | .tick _ =>
        if s.run = true ∧ s.state = .triggered ∧ min (s.postCounter.toNat + 1) 2047 = s.postCount.toNat then false
        else s.run
      | .setPeriodHi _ => false
      | .setPeriodLo _ => false
      | _ => s.run) ∧
  (∀ (i : Instr) (s t : State), exec i s = .next t → s.run = false → t.run = true →
    (∃ v, i = .start v) ∧ t.state ≠ .complete) ∧
  ∀ s t : State, step s = .next t → s.state ≠ .complete → t.state = .complete → t.run = false

/-- R20, R38 (with R200): each of the eleven items has only its writers. A gated tick is the sole writer of the ring, and
no command reaches `w` or the latch. The clauses on `inputs` and `cycle` (notes/assumptions/3.md) and on `rdData`
(notes/assumptions/4.md) are about the model's own fields. -/
def Obligations.EachItemHasOnlyItsWriters : Prop :=
  ∀ (i : Instr) (s t : State), exec i s = .next t →
    ((∀ x, i ≠ .tick x) → t.buf = s.buf ∧ (i ≠ .reset → t.w = s.w ∧ t.cur = s.cur)) ∧
    ((∀ v, i ≠ .setMask v) → i ≠ .reset → t.mask = s.mask) ∧
    ((∀ v, i ≠ .setPolarity v) → i ≠ .reset → t.polarity = s.polarity) ∧
    ((∀ v, i ≠ .setWindow v) → i ≠ .reset → t.postCount = s.postCount) ∧
    ((∀ v, i ≠ .setPeriodHi v) → i ≠ .reset → t.periodHi = s.periodHi) ∧
    ((∀ v, i ≠ .setPeriodLo v) → i ≠ .reset → t.periodLo = s.periodLo) ∧
    ((∀ x, i ≠ .tick x) → (∀ v, i ≠ .start v) → i ≠ .reset → t.postCounter = s.postCounter) ∧
    ((∀ x, i ≠ .tick x) → (∀ v, i ≠ .start v) → (∀ v, i ≠ .stop v) → i ≠ .reset → t.state = s.state) ∧
    ((∀ x, i ≠ .tick x) → (∀ v, i ≠ .start v) → (∀ v, i ≠ .stop v) → (∀ v, i ≠ .setPeriodHi v) →
      (∀ v, i ≠ .setPeriodLo v) → i ≠ .reset → t.run = s.run) ∧
    ((∀ a, i ≠ .peek a) → t.rdData = s.rdData) ∧ t.inputs = s.inputs ∧ t.cycle = s.cycle

/-- R23 ("A model may therefore drop `cur` from its state without changing any other register's behaviour", marked as
derived), R30 ("The block itself never reads it"): the latch and the period registers are read by nothing: two states
that differ only in them step to states that agree in everything else, with the same pins, queued or free. -/
def Obligations.LatchAndPeriodAreReadByNothing : Prop :=
  ∀ (s : State) (c hi lo : Word), ∃ t u,
    step s = .next t ∧ step { s with cur := c, periodHi := hi, periodLo := lo } = .next u ∧
    u = { t with cur := u.cur, periodHi := u.periodHi, periodLo := u.periodLo }

/-! ### Runs of many steps, for any inputs -/

/-- R118, and I5 as R119 restates it, both marked "[derived: from rule R117]": from ARMED with the gate open, a fire
tick and `post_count` further gated ticks lead to COMPLETE and not before; exactly `post_count + 1` samples are
written, in order from the fire tick's index `f`; the rest of the ring keeps the samples before; and for a window of
1024 the last sample has overwritten the fire sample.
The reference word is `buf[w]`: under spec/90_conflicts.md C1 (notes/assumptions/10.md). -/
def Obligations.CaptureCompletesWithItsWindow : Prop :=
  ∀ (s : State) (p : Pins) (ps rest : List Pins), s.state = .armed → s.run = true → 1 ≤ s.postCount.toNat →
    s.postCount.toNat ≤ 1024 → s.inputs = p :: ps ++ rest → ps.length = s.postCount.toNat →
    (∀ q ∈ p :: ps, OnlyTick q) → Fires p.sampleIn s →
    (∀ k, k < ps.length → ∃ u, Reaches (k + 1) s u ∧ u.state = .triggered ∧ u.run = true ∧
      u.postCounter.toNat = k) ∧
    ∃ t, Reaches (ps.length + 1) s t ∧ t.state = .complete ∧ t.run = false ∧ t.postCounter = s.postCount ∧
      t.inputs = rest ∧ t.w = s.w + BitVec.ofNat 10 s.postCount.toNat + 1 ∧ SameConfig s t ∧
      (∀ j q, ps[j]? = some q → t.ringWord (s.w + 1 + BitVec.ofNat 10 j) = q.sampleIn) ∧
      (s.postCount.toNat ≤ 1023 → t.ringWord (t.w - BitVec.ofNat 10 s.postCount.toNat - 1) = p.sampleIn) ∧
      (∀ j, s.postCount.toNat < j → j < 1024 →
        t.ringWord (s.w + BitVec.ofNat 10 j) = s.ringWord (s.w + BitVec.ofNat 10 j))

/-- R142, which the spec marks "[derived: from rule R134 and file `42_sampler_tick.md` rule R117]": a STOP after the
fire tick and `c < post_count` further gated ticks leaves the partial window: the fire sample `c + 1` words before the
write index, and the `c` samples after it.
Under spec/90_conflicts.md C1 (notes/assumptions/10.md). -/
def Obligations.StopInTriggeredLeavesThePartialWindow : Prop :=
  ∀ (s : State) (v : Word) (p q : Pins) (ps rest : List Pins), s.state = .armed → s.run = true →
    s.postCount.toNat ≤ 1024 → s.inputs = p :: ps ++ q :: rest → ps.length < s.postCount.toNat →
    (∀ r ∈ p :: ps, OnlyTick r) → Fires p.sampleIn s → Presents 2 v q → q.tick = false →
    ∃ t, Reaches (ps.length + 2) s t ∧ t.state = .complete ∧ t.run = false ∧ t.postCounter.toNat = ps.length ∧
      t.w = s.w + BitVec.ofNat 10 ps.length + 1 ∧
      t.ringWord (t.w - BitVec.ofNat 10 ps.length - 1) = p.sampleIn ∧
      ∀ j r, ps[j]? = some r → t.ringWord (s.w + 1 + BitVec.ofNat 10 j) = r.sampleIn

/-- R121: if FIRE is false on every gated tick, the state stays ARMED, every tick pushes, `w` wraps freely, `run`
stays 1 and `complete_o` stays 0.
Under spec/90_conflicts.md C1 (notes/assumptions/10.md). -/
def Obligations.WithoutFireTheStateStaysArmed : Prop :=
  ∀ (s : State) (ps rest : List Pins), s.state = .armed → s.run = true → s.inputs = ps ++ rest →
    (∀ p ∈ ps, OnlyTick p) →
    (∀ k u p, Reaches k s u → ps[k]? = some p → ¬ Fires p.sampleIn u) →
    ∃ t, Reaches ps.length s t ∧ t.state = .armed ∧ t.run = true ∧
      t.w.toNat = (s.w.toNat + ps.length) % 1024 ∧ t.postCounter = s.postCounter ∧ t.inputs = rest ∧
      (∀ a, t.ringWord a = (pushAll (ps.map Pins.sampleIn) s).ringWord a) ∧
      ∀ i, (outputs t i).completeO = false

/-- R209, which the spec marks as derived from R117 and R155: once the count has reached the window in TRIGGERED, no
number of gated ticks completes the capture: the count goes up to 2047 and stays there, every tick pushes, and STOP
ends it. -/
def Obligations.APassedWindowNeverCompletes : Prop :=
  ∀ (s : State) (ps rest : List Pins), s.state = .triggered → s.run = true →
    s.postCount.toNat ≤ s.postCounter.toNat → s.postCount.toNat ≤ 1024 → s.inputs = ps ++ rest →
    (∀ p ∈ ps, OnlyTick p) →
    ∃ t, Reaches ps.length s t ∧ t.state = .triggered ∧ t.run = true ∧
      t.postCounter.toNat = min (s.postCounter.toNat + ps.length) 2047 ∧ t.inputs = rest ∧
      (∀ a, t.ringWord a = (pushAll (ps.map Pins.sampleIn) s).ringWord a) ∧
      ∀ v, ∃ u, exec (.stop v) t = .next u ∧ u.state = .complete ∧ u.run = false

/-- R60: a step that enters COMPLETE stops the ticks; from there, until a START or a reset, neither the ring nor `w`
changes, and every PEEK answers the captured data. The same from any COMPLETE state with `run = 0`. -/
def Obligations.TheBufferIsFrozenInComplete : Prop :=
  ∀ (s : State) (ps rest : List Pins), s.state = .complete →
    (s.run = false ∨ ∃ s0 : State, s0.state ≠ .complete ∧ step s0 = .next s) →
    s.inputs = ps ++ rest → (∀ p ∈ ps, LeavesFrozen p) →
    ∃ t, Reaches ps.length s t ∧ t.state = .complete ∧ t.run = false ∧ t.w = s.w ∧ SameRing s t ∧
      t.inputs = rest ∧ ∀ p, ps.getLast? = some p → t.rdData = s.ringWord p.rdAddr

/-- R159 (I6), which the spec marks as derived from R153, R154 and R73: after the two halves of P in either order,
with no other period command and no reset between or after, the exported period is P. -/
def Obligations.PeriodRoundTrip : Prop :=
  ∀ (s : State) (P : Period) (a b : Pins) (mid after rest : List Pins),
    s.inputs = a :: mid ++ b :: after ++ rest → (∀ p ∈ mid ++ after, LeavesPeriod p) →
    ((Presents 5 (P.extractLsb' 16 16) a ∧ Presents 6 (P.extractLsb' 0 16) b) ∨
     (Presents 6 (P.extractLsb' 0 16) a ∧ Presents 5 (P.extractLsb' 16 16) b)) →
    ∃ t, Reaches (mid.length + after.length + 2) s t ∧ t.inputs = rest ∧ ∀ i, (outputs t i).periodO = P
end

