-- ==== Sys2Proof/Laws/Decode.lean ====
section
/-! SUPPORT. The two fields of a command word, and the word they make (spec/30_encoding.md R71). -/

namespace Sys2Proof

@[simp] theorem cmdId_commandWord (id v : Word) : cmdId (commandWord id v) = id :=
  BitVec.extractLsb'_append_eq_left

@[simp] theorem cmdValue_commandWord (id v : Word) : cmdValue (commandWord id v) = v :=
  BitVec.extractLsb'_append_eq_right

/-- A 32-bit word is its upper and its lower half. -/
theorem append_halves (cw : BitVec 32) : cw.extractLsb' 16 16 ++ cw.extractLsb' 0 16 = cw :=
  BitVec.extractLsb'_append_extractLsb'_eq_extractLsb' (by omega) |>.trans (by simp)

@[simp] theorem commandWord_fields (cw : CommandWord) : commandWord (cmdId cw) (cmdValue cw) = cw :=
  append_halves cw

end Sys2Proof
end

