-- ==== Sys2Proof/Laws/Flags.lean ====
section
/-! SUPPORT. FIRE bit by bit (spec/41_trigger_evaluator.md R102), and equality of counts as numbers. -/

namespace Sys2Proof.Machine

/-- One bit of `hit` (R102). -/
theorem fireHit_getLsbD (current prev mask polarity : Word) (i : Nat) (h : i < 16) :
    (fireHit current prev mask polarity).getLsbD i =
      (mask.getLsbD i && (prev.getLsbD i != current.getLsbD i) && (current.getLsbD i == polarity.getLsbD i)) := by
  simp only [fireHit, fireChanged, fireMatched, BitVec.getLsbD_and, BitVec.getLsbD_xor, BitVec.getLsbD_not, h,
    decide_true, Bool.true_and]
  cases current.getLsbD i <;> cases prev.getLsbD i <;> cases mask.getLsbD i <;> cases polarity.getLsbD i <;> rfl

/-- FIRE is the OR-reduction of `hit` (R100). -/
theorem fire_eq_true (current prev mask polarity : Word) :
    fire current prev mask polarity = true ↔
      ∃ i, i < 16 ∧ (fireHit current prev mask polarity).getLsbD i = true := by
  simp only [fire, bne_iff_ne, ne_eq]
  constructor
  · intro h
    by_contra hn
    refine h (BitVec.eq_of_getLsbD_eq fun i hi => ?_)
    rw [BitVec.getLsbD_zero, Bool.eq_false_iff]
    exact fun ht => hn ⟨i, hi, ht⟩
  · rintro ⟨i, -, ht⟩ h
    rw [h, BitVec.getLsbD_zero] at ht
    cases ht

end Sys2Proof.Machine
end

