-- ==== Sys2Proof/Laws/Memory.lean ====
section
/-! SUPPORT. The laws of the ring memory and of its write index: what a read answers after a write, that a write keeps
the canonical form, and how the index advances (spec/20_memory.md R54, spec/40_ring_buffer.md R92). -/

namespace Sys2Proof.Machine

/-- A read of the index just written answers the word written. -/
@[simp] theorem Memory.read_write_same (m : Memory) (i : Index) (v : Word) :
    Memory.read (Memory.write m i v) i = v := by
  induction m with
  | nil => simp [Memory.write, Memory.read]
  | cons c m ih =>
    unfold Memory.write
    split
    · rename_i h
      simp [Memory.read, Nat.ne_of_lt h, ih]
    · split <;> simp [Memory.read]

/-- A write leaves every other index alone. -/
theorem Memory.read_write_ne (m : Memory) {i j : Index} (v : Word) (h : j ≠ i) :
    Memory.read (Memory.write m i v) j = Memory.read m j := by
  have hn : i.toNat ≠ j.toNat := fun e => h (BitVec.eq_of_toNat_eq e.symm)
  induction m with
  | nil => simp [Memory.write, Memory.read, hn]
  | cons c m ih =>
    unfold Memory.write
    split
    · simp only [Memory.read, ih]
    · split
      · rename_i hc
        simp [Memory.read, hc, hn]
      · simp [Memory.read, hn]

/-- A read after a write, at any index. -/
theorem Memory.read_write (m : Memory) (i j : Index) (v : Word) :
    Memory.read (Memory.write m i v) j = if j = i then v else Memory.read m j := by
  split
  · subst_vars
    exact Memory.read_write_same m _ v
  · exact Memory.read_write_ne m v ‹_›

/-- A write to a listed index of a rising list keeps the list of indices. -/
theorem Memory.write_keys (m : Memory) (i : Index) (v : Word) (hs : (m.map Prod.fst).Pairwise (· < ·))
    (hi : i.toNat ∈ m.map Prod.fst) : (Memory.write m i v).map Prod.fst = m.map Prod.fst := by
  induction m with
  | nil => simp at hi
  | cons c m ih =>
    simp only [List.map_cons, List.pairwise_cons, List.mem_cons] at hs hi
    unfold Memory.write
    split
    · have : i.toNat ∈ m.map Prod.fst := hi.resolve_left (by omega)
      simp [ih hs.2 this]
    · split
      · simp_all
      · have := hi.resolve_left (by omega)
        have := hs.1 _ this
        omega

/-- Every memory operation keeps the canonical form: a write does. -/
theorem Memory.write_keeps_wf (m : Memory) (i : Index) (v : Word) (h : Memory.wf m = true) :
    Memory.wf (Memory.write m i v) = true := by
  simp only [Memory.wf, decide_eq_true_eq] at h ⊢
  rw [Memory.write_keys m i v, h]
  · rw [h]; exact List.pairwise_lt_range
  · rw [h, List.mem_range]; exact i.isLt

/-- The power-up cells are one for each of their indices. -/
theorem Memory.powerUpCells_eq (k n : Nat) : Memory.powerUpCells k n =
    (List.range' n k).map fun i => (i, Config.bufReset (BitVec.ofNat 10 i)) := by
  induction k generalizing n with
  | zero => rfl
  | succ k ih => simp [Memory.powerUpCells, List.range'_succ, ih]

/-- The power-up contents have the canonical form. -/
theorem Memory.powerUp_wf : Memory.wf Memory.powerUp = true := by
  simp only [Memory.wf, Memory.powerUp, decide_eq_true_eq, Memory.powerUpCells_eq, List.map_map]
  rw [List.range_eq_range']
  exact List.map_id _

/-- A read in a list of cells that holds, at each listed index, the word of a function. -/
theorem Memory.read_map (f : Nat → Word) (l : List Nat) (i : Index) (h : i.toNat ∈ l) :
    Memory.read (l.map fun n => (n, f n)) i = f i.toNat := by
  induction l with
  | nil => simp at h
  | cons n l ih =>
    simp only [List.map_cons, Memory.read]
    split
    · subst_vars; simp_all
    · exact ih ((List.mem_cons.mp h).resolve_left (by omega))

/-- Every index of the ring reads as `BUF_RESET` at power-up (R39). -/
theorem Memory.read_powerUp (i : Index) : Memory.read Memory.powerUp i = Config.bufReset i := by
  rw [Memory.powerUp, Memory.powerUpCells_eq, Memory.read_map (fun n => Config.bufReset (BitVec.ofNat 10 n)) _ i]
  · simp
  · have := i.isLt
    simp only [Config.ringSize, List.mem_range'_1]; omega

/-- The bit-mask form of the next index is the 10-bit increment (R92). -/
theorem nextIndex_eq (w : Index) : nextIndex w = w + 1#10 := by
  revert w; decide +kernel

/-- The next index, as a number (R92). -/
theorem nextIndex_toNat (w : Index) : (nextIndex w).toNat = (w.toNat + 1) % 1024 := by
  rw [nextIndex_eq]; simp [BitVec.toNat_add]

/-- The counter after one more tick, as a number (R114). -/
theorem countUp_toNat (c : Count) : (countUp c).toNat = min (c.toNat + 1) 2047 := by
  have := c.isLt
  simp only [countUp, Config.counterMax, BitVec.toNat_ofNat]
  exact Nat.mod_eq_of_lt (by omega)

/-- What the ring holds after a PUSH (R90). -/
theorem State.push_ringWord (x : Word) (s : State) (i : Index) :
    (s.push x).ringWord i = if i = s.w then x else s.ringWord i :=
  Memory.read_write s.buf s.w i x

@[simp] theorem State.push_ringWord_same (x : Word) (s : State) : (s.push x).ringWord s.w = x :=
  Memory.read_write_same s.buf s.w x

theorem State.push_ringWord_ne (x : Word) (s : State) {i : Index} (h : i ≠ s.w) :
    (s.push x).ringWord i = s.ringWord i :=
  Memory.read_write_ne s.buf x h

end Sys2Proof.Machine
end

