-- ==== Sys2Proof/Laws/Operands.lean ====
section
/-! SUPPORT. The operand checks and the post-trigger count, as numbers (spec/44_config_commands.md, spec/42_sampler_tick.md
R114). -/

namespace Sys2Proof.Machine

/-- SET_WINDOW accepts 1 to 1024 (R155). -/
theorem windowAccepted_iff (v : Word) : windowAccepted v = true ↔ 1 ≤ v.toNat ∧ v.toNat ≤ 1024 :=
  decide_eq_true_iff

/-- SET_MASK accepts what is not zero (R152). -/
theorem maskAccepted_iff (v : Word) : maskAccepted v = true ↔ v ≠ 0#16 := bne_iff_ne

/-- An accepted window is stored as its own number (R72, R155). -/
theorem windowCount_toNat (v : Word) (h : v.toNat ≤ 1024) : (windowCount v).toNat = v.toNat := by
  simp only [windowCount, BitVec.extractLsb'_toNat]
  omega

/-- The incremented count meets the window exactly when their numbers do (R114). -/
theorem countUp_eq_iff (c n : Count) : countUp c = n ↔ min (c.toNat + 1) 2047 = n.toNat := by
  rw [← BitVec.toNat_inj, countUp_toNat]

end Sys2Proof.Machine
end

