-- ==== Sys2Proof/Laws/State.lean ====
section
/-! SUPPORT. For each named update of the state, the value of every field after it: true by unfolding, and tagged
for simp, so that no later proof opens a record update. -/

namespace Sys2Proof.Machine

variable (s : State)

section latch
variable (x : Word)
@[simp] theorem State.latch_buf : (State.latch x s).buf = s.buf := rfl
@[simp] theorem State.latch_w : (State.latch x s).w = s.w := rfl
@[simp] theorem State.latch_cur : (State.latch x s).cur = x := rfl
@[simp] theorem State.latch_postCounter : (State.latch x s).postCounter = s.postCounter := rfl
@[simp] theorem State.latch_state : (State.latch x s).state = s.state := rfl
@[simp] theorem State.latch_run : (State.latch x s).run = s.run := rfl
@[simp] theorem State.latch_mask : (State.latch x s).mask = s.mask := rfl
@[simp] theorem State.latch_polarity : (State.latch x s).polarity = s.polarity := rfl
@[simp] theorem State.latch_postCount : (State.latch x s).postCount = s.postCount := rfl
@[simp] theorem State.latch_periodHi : (State.latch x s).periodHi = s.periodHi := rfl
@[simp] theorem State.latch_periodLo : (State.latch x s).periodLo = s.periodLo := rfl
@[simp] theorem State.latch_rdData : (State.latch x s).rdData = s.rdData := rfl
@[simp] theorem State.latch_inputs : (State.latch x s).inputs = s.inputs := rfl
@[simp] theorem State.latch_cycle : (State.latch x s).cycle = s.cycle := rfl
@[simp] theorem State.latch_ringWord (i : Index) : (State.latch x s).ringWord i = s.ringWord i := rfl
end latch

section push
variable (x : Word)
@[simp] theorem State.push_buf : (State.push x s).buf = Memory.write s.buf s.w x := rfl
@[simp] theorem State.push_w : (State.push x s).w = nextIndex s.w := rfl
@[simp] theorem State.push_cur : (State.push x s).cur = s.cur := rfl
@[simp] theorem State.push_postCounter : (State.push x s).postCounter = s.postCounter := rfl
@[simp] theorem State.push_state : (State.push x s).state = s.state := rfl
@[simp] theorem State.push_run : (State.push x s).run = s.run := rfl
@[simp] theorem State.push_mask : (State.push x s).mask = s.mask := rfl
@[simp] theorem State.push_polarity : (State.push x s).polarity = s.polarity := rfl
@[simp] theorem State.push_postCount : (State.push x s).postCount = s.postCount := rfl
@[simp] theorem State.push_periodHi : (State.push x s).periodHi = s.periodHi := rfl
@[simp] theorem State.push_periodLo : (State.push x s).periodLo = s.periodLo := rfl
@[simp] theorem State.push_rdData : (State.push x s).rdData = s.rdData := rfl
@[simp] theorem State.push_inputs : (State.push x s).inputs = s.inputs := rfl
@[simp] theorem State.push_cycle : (State.push x s).cycle = s.cycle := rfl
end push

section trigger
variable (fired : Bool)
@[simp] theorem State.trigger_buf : (State.trigger fired s).buf = s.buf := rfl
@[simp] theorem State.trigger_w : (State.trigger fired s).w = s.w := rfl
@[simp] theorem State.trigger_cur : (State.trigger fired s).cur = s.cur := rfl
@[simp] theorem State.trigger_postCounter : (State.trigger fired s).postCounter = if fired then 0#11 else s.postCounter := rfl
@[simp] theorem State.trigger_state : (State.trigger fired s).state = if fired then .triggered else s.state := rfl
@[simp] theorem State.trigger_run : (State.trigger fired s).run = s.run := rfl
@[simp] theorem State.trigger_mask : (State.trigger fired s).mask = s.mask := rfl
@[simp] theorem State.trigger_polarity : (State.trigger fired s).polarity = s.polarity := rfl
@[simp] theorem State.trigger_postCount : (State.trigger fired s).postCount = s.postCount := rfl
@[simp] theorem State.trigger_periodHi : (State.trigger fired s).periodHi = s.periodHi := rfl
@[simp] theorem State.trigger_periodLo : (State.trigger fired s).periodLo = s.periodLo := rfl
@[simp] theorem State.trigger_rdData : (State.trigger fired s).rdData = s.rdData := rfl
@[simp] theorem State.trigger_inputs : (State.trigger fired s).inputs = s.inputs := rfl
@[simp] theorem State.trigger_cycle : (State.trigger fired s).cycle = s.cycle := rfl
@[simp] theorem State.trigger_ringWord (i : Index) : (State.trigger fired s).ringWord i = s.ringWord i := rfl
end trigger

section setPostCounter
variable (c : Count)
@[simp] theorem State.setPostCounter_buf : (State.setPostCounter c s).buf = s.buf := rfl
@[simp] theorem State.setPostCounter_w : (State.setPostCounter c s).w = s.w := rfl
@[simp] theorem State.setPostCounter_cur : (State.setPostCounter c s).cur = s.cur := rfl
@[simp] theorem State.setPostCounter_postCounter : (State.setPostCounter c s).postCounter = c := rfl
@[simp] theorem State.setPostCounter_state : (State.setPostCounter c s).state = s.state := rfl
@[simp] theorem State.setPostCounter_run : (State.setPostCounter c s).run = s.run := rfl
@[simp] theorem State.setPostCounter_mask : (State.setPostCounter c s).mask = s.mask := rfl
@[simp] theorem State.setPostCounter_polarity : (State.setPostCounter c s).polarity = s.polarity := rfl
@[simp] theorem State.setPostCounter_postCount : (State.setPostCounter c s).postCount = s.postCount := rfl
@[simp] theorem State.setPostCounter_periodHi : (State.setPostCounter c s).periodHi = s.periodHi := rfl
@[simp] theorem State.setPostCounter_periodLo : (State.setPostCounter c s).periodLo = s.periodLo := rfl
@[simp] theorem State.setPostCounter_rdData : (State.setPostCounter c s).rdData = s.rdData := rfl
@[simp] theorem State.setPostCounter_inputs : (State.setPostCounter c s).inputs = s.inputs := rfl
@[simp] theorem State.setPostCounter_cycle : (State.setPostCounter c s).cycle = s.cycle := rfl
@[simp] theorem State.setPostCounter_ringWord (i : Index) : (State.setPostCounter c s).ringWord i = s.ringWord i := rfl
end setPostCounter

section enterComplete
@[simp] theorem State.enterComplete_buf : (s.enterComplete).buf = s.buf := rfl
@[simp] theorem State.enterComplete_w : (s.enterComplete).w = s.w := rfl
@[simp] theorem State.enterComplete_cur : (s.enterComplete).cur = s.cur := rfl
@[simp] theorem State.enterComplete_postCounter : (s.enterComplete).postCounter = s.postCounter := rfl
@[simp] theorem State.enterComplete_state : (s.enterComplete).state = .complete := rfl
@[simp] theorem State.enterComplete_run : (s.enterComplete).run = false := rfl
@[simp] theorem State.enterComplete_mask : (s.enterComplete).mask = s.mask := rfl
@[simp] theorem State.enterComplete_polarity : (s.enterComplete).polarity = s.polarity := rfl
@[simp] theorem State.enterComplete_postCount : (s.enterComplete).postCount = s.postCount := rfl
@[simp] theorem State.enterComplete_periodHi : (s.enterComplete).periodHi = s.periodHi := rfl
@[simp] theorem State.enterComplete_periodLo : (s.enterComplete).periodLo = s.periodLo := rfl
@[simp] theorem State.enterComplete_rdData : (s.enterComplete).rdData = s.rdData := rfl
@[simp] theorem State.enterComplete_inputs : (s.enterComplete).inputs = s.inputs := rfl
@[simp] theorem State.enterComplete_cycle : (s.enterComplete).cycle = s.cycle := rfl
@[simp] theorem State.enterComplete_ringWord (i : Index) : (s.enterComplete).ringWord i = s.ringWord i := rfl
end enterComplete

section rearm
@[simp] theorem State.rearm_buf : (s.rearm).buf = s.buf := rfl
@[simp] theorem State.rearm_w : (s.rearm).w = s.w := rfl
@[simp] theorem State.rearm_cur : (s.rearm).cur = s.cur := rfl
@[simp] theorem State.rearm_postCounter : (s.rearm).postCounter = 0#11 := rfl
@[simp] theorem State.rearm_state : (s.rearm).state = .armed := rfl
@[simp] theorem State.rearm_run : (s.rearm).run = s.run := rfl
@[simp] theorem State.rearm_mask : (s.rearm).mask = s.mask := rfl
@[simp] theorem State.rearm_polarity : (s.rearm).polarity = s.polarity := rfl
@[simp] theorem State.rearm_postCount : (s.rearm).postCount = s.postCount := rfl
@[simp] theorem State.rearm_periodHi : (s.rearm).periodHi = s.periodHi := rfl
@[simp] theorem State.rearm_periodLo : (s.rearm).periodLo = s.periodLo := rfl
@[simp] theorem State.rearm_rdData : (s.rearm).rdData = s.rdData := rfl
@[simp] theorem State.rearm_inputs : (s.rearm).inputs = s.inputs := rfl
@[simp] theorem State.rearm_cycle : (s.rearm).cycle = s.cycle := rfl
@[simp] theorem State.rearm_ringWord (i : Index) : (s.rearm).ringWord i = s.ringWord i := rfl
end rearm

section openGate
@[simp] theorem State.openGate_buf : (s.openGate).buf = s.buf := rfl
@[simp] theorem State.openGate_w : (s.openGate).w = s.w := rfl
@[simp] theorem State.openGate_cur : (s.openGate).cur = s.cur := rfl
@[simp] theorem State.openGate_postCounter : (s.openGate).postCounter = s.postCounter := rfl
@[simp] theorem State.openGate_state : (s.openGate).state = s.state := rfl
@[simp] theorem State.openGate_run : (s.openGate).run = true := rfl
@[simp] theorem State.openGate_mask : (s.openGate).mask = s.mask := rfl
@[simp] theorem State.openGate_polarity : (s.openGate).polarity = s.polarity := rfl
@[simp] theorem State.openGate_postCount : (s.openGate).postCount = s.postCount := rfl
@[simp] theorem State.openGate_periodHi : (s.openGate).periodHi = s.periodHi := rfl
@[simp] theorem State.openGate_periodLo : (s.openGate).periodLo = s.periodLo := rfl
@[simp] theorem State.openGate_rdData : (s.openGate).rdData = s.rdData := rfl
@[simp] theorem State.openGate_inputs : (s.openGate).inputs = s.inputs := rfl
@[simp] theorem State.openGate_cycle : (s.openGate).cycle = s.cycle := rfl
@[simp] theorem State.openGate_ringWord (i : Index) : (s.openGate).ringWord i = s.ringWord i := rfl
end openGate

section closeGate
@[simp] theorem State.closeGate_buf : (s.closeGate).buf = s.buf := rfl
@[simp] theorem State.closeGate_w : (s.closeGate).w = s.w := rfl
@[simp] theorem State.closeGate_cur : (s.closeGate).cur = s.cur := rfl
@[simp] theorem State.closeGate_postCounter : (s.closeGate).postCounter = s.postCounter := rfl
@[simp] theorem State.closeGate_state : (s.closeGate).state = s.state := rfl
@[simp] theorem State.closeGate_run : (s.closeGate).run = false := rfl
@[simp] theorem State.closeGate_mask : (s.closeGate).mask = s.mask := rfl
@[simp] theorem State.closeGate_polarity : (s.closeGate).polarity = s.polarity := rfl
@[simp] theorem State.closeGate_postCount : (s.closeGate).postCount = s.postCount := rfl
@[simp] theorem State.closeGate_periodHi : (s.closeGate).periodHi = s.periodHi := rfl
@[simp] theorem State.closeGate_periodLo : (s.closeGate).periodLo = s.periodLo := rfl
@[simp] theorem State.closeGate_rdData : (s.closeGate).rdData = s.rdData := rfl
@[simp] theorem State.closeGate_inputs : (s.closeGate).inputs = s.inputs := rfl
@[simp] theorem State.closeGate_cycle : (s.closeGate).cycle = s.cycle := rfl
@[simp] theorem State.closeGate_ringWord (i : Index) : (s.closeGate).ringWord i = s.ringWord i := rfl
end closeGate

section setPolarity
variable (v : Word)
@[simp] theorem State.setPolarity_buf : (State.setPolarity v s).buf = s.buf := rfl
@[simp] theorem State.setPolarity_w : (State.setPolarity v s).w = s.w := rfl
@[simp] theorem State.setPolarity_cur : (State.setPolarity v s).cur = s.cur := rfl
@[simp] theorem State.setPolarity_postCounter : (State.setPolarity v s).postCounter = s.postCounter := rfl
@[simp] theorem State.setPolarity_state : (State.setPolarity v s).state = s.state := rfl
@[simp] theorem State.setPolarity_run : (State.setPolarity v s).run = s.run := rfl
@[simp] theorem State.setPolarity_mask : (State.setPolarity v s).mask = s.mask := rfl
@[simp] theorem State.setPolarity_polarity : (State.setPolarity v s).polarity = v := rfl
@[simp] theorem State.setPolarity_postCount : (State.setPolarity v s).postCount = s.postCount := rfl
@[simp] theorem State.setPolarity_periodHi : (State.setPolarity v s).periodHi = s.periodHi := rfl
@[simp] theorem State.setPolarity_periodLo : (State.setPolarity v s).periodLo = s.periodLo := rfl
@[simp] theorem State.setPolarity_rdData : (State.setPolarity v s).rdData = s.rdData := rfl
@[simp] theorem State.setPolarity_inputs : (State.setPolarity v s).inputs = s.inputs := rfl
@[simp] theorem State.setPolarity_cycle : (State.setPolarity v s).cycle = s.cycle := rfl
@[simp] theorem State.setPolarity_ringWord (i : Index) : (State.setPolarity v s).ringWord i = s.ringWord i := rfl
end setPolarity

section setMask
variable (v : Word)
@[simp] theorem State.setMask_buf : (State.setMask v s).buf = s.buf := rfl
@[simp] theorem State.setMask_w : (State.setMask v s).w = s.w := rfl
@[simp] theorem State.setMask_cur : (State.setMask v s).cur = s.cur := rfl
@[simp] theorem State.setMask_postCounter : (State.setMask v s).postCounter = s.postCounter := rfl
@[simp] theorem State.setMask_state : (State.setMask v s).state = s.state := rfl
@[simp] theorem State.setMask_run : (State.setMask v s).run = s.run := rfl
@[simp] theorem State.setMask_mask : (State.setMask v s).mask = v := rfl
@[simp] theorem State.setMask_polarity : (State.setMask v s).polarity = s.polarity := rfl
@[simp] theorem State.setMask_postCount : (State.setMask v s).postCount = s.postCount := rfl
@[simp] theorem State.setMask_periodHi : (State.setMask v s).periodHi = s.periodHi := rfl
@[simp] theorem State.setMask_periodLo : (State.setMask v s).periodLo = s.periodLo := rfl
@[simp] theorem State.setMask_rdData : (State.setMask v s).rdData = s.rdData := rfl
@[simp] theorem State.setMask_inputs : (State.setMask v s).inputs = s.inputs := rfl
@[simp] theorem State.setMask_cycle : (State.setMask v s).cycle = s.cycle := rfl
@[simp] theorem State.setMask_ringWord (i : Index) : (State.setMask v s).ringWord i = s.ringWord i := rfl
end setMask

section setPostCount
variable (c : Count)
@[simp] theorem State.setPostCount_buf : (State.setPostCount c s).buf = s.buf := rfl
@[simp] theorem State.setPostCount_w : (State.setPostCount c s).w = s.w := rfl
@[simp] theorem State.setPostCount_cur : (State.setPostCount c s).cur = s.cur := rfl
@[simp] theorem State.setPostCount_postCounter : (State.setPostCount c s).postCounter = s.postCounter := rfl
@[simp] theorem State.setPostCount_state : (State.setPostCount c s).state = s.state := rfl
@[simp] theorem State.setPostCount_run : (State.setPostCount c s).run = s.run := rfl
@[simp] theorem State.setPostCount_mask : (State.setPostCount c s).mask = s.mask := rfl
@[simp] theorem State.setPostCount_polarity : (State.setPostCount c s).polarity = s.polarity := rfl
@[simp] theorem State.setPostCount_postCount : (State.setPostCount c s).postCount = c := rfl
@[simp] theorem State.setPostCount_periodHi : (State.setPostCount c s).periodHi = s.periodHi := rfl
@[simp] theorem State.setPostCount_periodLo : (State.setPostCount c s).periodLo = s.periodLo := rfl
@[simp] theorem State.setPostCount_rdData : (State.setPostCount c s).rdData = s.rdData := rfl
@[simp] theorem State.setPostCount_inputs : (State.setPostCount c s).inputs = s.inputs := rfl
@[simp] theorem State.setPostCount_cycle : (State.setPostCount c s).cycle = s.cycle := rfl
@[simp] theorem State.setPostCount_ringWord (i : Index) : (State.setPostCount c s).ringWord i = s.ringWord i := rfl
end setPostCount

section setPeriodHi
variable (v : Word)
@[simp] theorem State.setPeriodHi_buf : (State.setPeriodHi v s).buf = s.buf := rfl
@[simp] theorem State.setPeriodHi_w : (State.setPeriodHi v s).w = s.w := rfl
@[simp] theorem State.setPeriodHi_cur : (State.setPeriodHi v s).cur = s.cur := rfl
@[simp] theorem State.setPeriodHi_postCounter : (State.setPeriodHi v s).postCounter = s.postCounter := rfl
@[simp] theorem State.setPeriodHi_state : (State.setPeriodHi v s).state = s.state := rfl
@[simp] theorem State.setPeriodHi_run : (State.setPeriodHi v s).run = s.run := rfl
@[simp] theorem State.setPeriodHi_mask : (State.setPeriodHi v s).mask = s.mask := rfl
@[simp] theorem State.setPeriodHi_polarity : (State.setPeriodHi v s).polarity = s.polarity := rfl
@[simp] theorem State.setPeriodHi_postCount : (State.setPeriodHi v s).postCount = s.postCount := rfl
@[simp] theorem State.setPeriodHi_periodHi : (State.setPeriodHi v s).periodHi = v := rfl
@[simp] theorem State.setPeriodHi_periodLo : (State.setPeriodHi v s).periodLo = s.periodLo := rfl
@[simp] theorem State.setPeriodHi_rdData : (State.setPeriodHi v s).rdData = s.rdData := rfl
@[simp] theorem State.setPeriodHi_inputs : (State.setPeriodHi v s).inputs = s.inputs := rfl
@[simp] theorem State.setPeriodHi_cycle : (State.setPeriodHi v s).cycle = s.cycle := rfl
@[simp] theorem State.setPeriodHi_ringWord (i : Index) : (State.setPeriodHi v s).ringWord i = s.ringWord i := rfl
end setPeriodHi

section setPeriodLo
variable (v : Word)
@[simp] theorem State.setPeriodLo_buf : (State.setPeriodLo v s).buf = s.buf := rfl
@[simp] theorem State.setPeriodLo_w : (State.setPeriodLo v s).w = s.w := rfl
@[simp] theorem State.setPeriodLo_cur : (State.setPeriodLo v s).cur = s.cur := rfl
@[simp] theorem State.setPeriodLo_postCounter : (State.setPeriodLo v s).postCounter = s.postCounter := rfl
@[simp] theorem State.setPeriodLo_state : (State.setPeriodLo v s).state = s.state := rfl
@[simp] theorem State.setPeriodLo_run : (State.setPeriodLo v s).run = s.run := rfl
@[simp] theorem State.setPeriodLo_mask : (State.setPeriodLo v s).mask = s.mask := rfl
@[simp] theorem State.setPeriodLo_polarity : (State.setPeriodLo v s).polarity = s.polarity := rfl
@[simp] theorem State.setPeriodLo_postCount : (State.setPeriodLo v s).postCount = s.postCount := rfl
@[simp] theorem State.setPeriodLo_periodHi : (State.setPeriodLo v s).periodHi = s.periodHi := rfl
@[simp] theorem State.setPeriodLo_periodLo : (State.setPeriodLo v s).periodLo = v := rfl
@[simp] theorem State.setPeriodLo_rdData : (State.setPeriodLo v s).rdData = s.rdData := rfl
@[simp] theorem State.setPeriodLo_inputs : (State.setPeriodLo v s).inputs = s.inputs := rfl
@[simp] theorem State.setPeriodLo_cycle : (State.setPeriodLo v s).cycle = s.cycle := rfl
@[simp] theorem State.setPeriodLo_ringWord (i : Index) : (State.setPeriodLo v s).ringWord i = s.ringWord i := rfl
end setPeriodLo

section driveReadPort
variable (d : Word)
@[simp] theorem State.driveReadPort_buf : (State.driveReadPort d s).buf = s.buf := rfl
@[simp] theorem State.driveReadPort_w : (State.driveReadPort d s).w = s.w := rfl
@[simp] theorem State.driveReadPort_cur : (State.driveReadPort d s).cur = s.cur := rfl
@[simp] theorem State.driveReadPort_postCounter : (State.driveReadPort d s).postCounter = s.postCounter := rfl
@[simp] theorem State.driveReadPort_state : (State.driveReadPort d s).state = s.state := rfl
@[simp] theorem State.driveReadPort_run : (State.driveReadPort d s).run = s.run := rfl
@[simp] theorem State.driveReadPort_mask : (State.driveReadPort d s).mask = s.mask := rfl
@[simp] theorem State.driveReadPort_polarity : (State.driveReadPort d s).polarity = s.polarity := rfl
@[simp] theorem State.driveReadPort_postCount : (State.driveReadPort d s).postCount = s.postCount := rfl
@[simp] theorem State.driveReadPort_periodHi : (State.driveReadPort d s).periodHi = s.periodHi := rfl
@[simp] theorem State.driveReadPort_periodLo : (State.driveReadPort d s).periodLo = s.periodLo := rfl
@[simp] theorem State.driveReadPort_rdData : (State.driveReadPort d s).rdData = d := rfl
@[simp] theorem State.driveReadPort_inputs : (State.driveReadPort d s).inputs = s.inputs := rfl
@[simp] theorem State.driveReadPort_cycle : (State.driveReadPort d s).cycle = s.cycle := rfl
@[simp] theorem State.driveReadPort_ringWord (i : Index) : (State.driveReadPort d s).ringWord i = s.ringWord i := rfl
end driveReadPort

section resetRegisters
@[simp] theorem State.resetRegisters_buf : (s.resetRegisters).buf = s.buf := rfl
@[simp] theorem State.resetRegisters_w : (s.resetRegisters).w = 0#10 := rfl
@[simp] theorem State.resetRegisters_cur : (s.resetRegisters).cur = 0x0000#16 := rfl
@[simp] theorem State.resetRegisters_postCounter : (s.resetRegisters).postCounter = 0#11 := rfl
@[simp] theorem State.resetRegisters_state : (s.resetRegisters).state = .armed := rfl
@[simp] theorem State.resetRegisters_run : (s.resetRegisters).run = false := rfl
@[simp] theorem State.resetRegisters_mask : (s.resetRegisters).mask = Config.maskReset := rfl
@[simp] theorem State.resetRegisters_polarity : (s.resetRegisters).polarity = Config.polarityReset := rfl
@[simp] theorem State.resetRegisters_postCount : (s.resetRegisters).postCount = Config.postCountReset := rfl
@[simp] theorem State.resetRegisters_periodHi : (s.resetRegisters).periodHi = Config.periodReset.extractLsb' 16 16 := rfl
@[simp] theorem State.resetRegisters_periodLo : (s.resetRegisters).periodLo = Config.periodReset.extractLsb' 0 16 := rfl
@[simp] theorem State.resetRegisters_rdData : (s.resetRegisters).rdData = s.rdData := rfl
@[simp] theorem State.resetRegisters_inputs : (s.resetRegisters).inputs = s.inputs := rfl
@[simp] theorem State.resetRegisters_cycle : (s.resetRegisters).cycle = s.cycle := rfl
@[simp] theorem State.resetRegisters_ringWord (i : Index) : (s.resetRegisters).ringWord i = s.ringWord i := rfl
end resetRegisters

section advance
@[simp] theorem State.advance_buf : (s.advance).buf = s.buf := rfl
@[simp] theorem State.advance_w : (s.advance).w = s.w := rfl
@[simp] theorem State.advance_cur : (s.advance).cur = s.cur := rfl
@[simp] theorem State.advance_postCounter : (s.advance).postCounter = s.postCounter := rfl
@[simp] theorem State.advance_state : (s.advance).state = s.state := rfl
@[simp] theorem State.advance_run : (s.advance).run = s.run := rfl
@[simp] theorem State.advance_mask : (s.advance).mask = s.mask := rfl
@[simp] theorem State.advance_polarity : (s.advance).polarity = s.polarity := rfl
@[simp] theorem State.advance_postCount : (s.advance).postCount = s.postCount := rfl
@[simp] theorem State.advance_periodHi : (s.advance).periodHi = s.periodHi := rfl
@[simp] theorem State.advance_periodLo : (s.advance).periodLo = s.periodLo := rfl
@[simp] theorem State.advance_rdData : (s.advance).rdData = s.rdData := rfl
@[simp] theorem State.advance_inputs : (s.advance).inputs = s.inputs.tail := rfl
@[simp] theorem State.advance_cycle : (s.advance).cycle = s.cycle + 1 := rfl
@[simp] theorem State.advance_ringWord (i : Index) : (s.advance).ringWord i = s.ringWord i := rfl
end advance

section present
variable (p : Pins)
@[simp] theorem State.present_buf : (State.present p s).buf = s.buf := rfl
@[simp] theorem State.present_w : (State.present p s).w = s.w := rfl
@[simp] theorem State.present_cur : (State.present p s).cur = s.cur := rfl
@[simp] theorem State.present_postCounter : (State.present p s).postCounter = s.postCounter := rfl
@[simp] theorem State.present_state : (State.present p s).state = s.state := rfl
@[simp] theorem State.present_run : (State.present p s).run = s.run := rfl
@[simp] theorem State.present_mask : (State.present p s).mask = s.mask := rfl
@[simp] theorem State.present_polarity : (State.present p s).polarity = s.polarity := rfl
@[simp] theorem State.present_postCount : (State.present p s).postCount = s.postCount := rfl
@[simp] theorem State.present_periodHi : (State.present p s).periodHi = s.periodHi := rfl
@[simp] theorem State.present_periodLo : (State.present p s).periodLo = s.periodLo := rfl
@[simp] theorem State.present_rdData : (State.present p s).rdData = s.rdData := rfl
@[simp] theorem State.present_inputs : (State.present p s).inputs = p :: s.inputs.tail := rfl
@[simp] theorem State.present_cycle : (State.present p s).cycle = s.cycle := rfl
@[simp] theorem State.present_ringWord (i : Index) : (State.present p s).ringWord i = s.ringWord i := rfl
end present

section reset
@[simp] theorem State.reset_buf : State.reset.buf = Memory.powerUp := rfl
@[simp] theorem State.reset_w : State.reset.w = 0#10 := rfl
@[simp] theorem State.reset_cur : State.reset.cur = 0#16 := rfl
@[simp] theorem State.reset_postCounter : State.reset.postCounter = 0#11 := rfl
@[simp] theorem State.reset_state : State.reset.state = .armed := rfl
@[simp] theorem State.reset_run : State.reset.run = false := rfl
@[simp] theorem State.reset_mask : State.reset.mask = 0x0001#16 := rfl
@[simp] theorem State.reset_polarity : State.reset.polarity = 0x0001#16 := rfl
@[simp] theorem State.reset_postCount : State.reset.postCount = 300#11 := rfl
@[simp] theorem State.reset_rdData : State.reset.rdData = 0#16 := rfl
@[simp] theorem State.reset_inputs : State.reset.inputs = [] := rfl
@[simp] theorem State.reset_cycle : State.reset.cycle = 0 := rfl
end reset

end Sys2Proof.Machine
end

