-- ==== Sys2Proof/Laws/Ops.lean ====
section
/-! SUPPORT. What each shared operation can do, said once: the trigger and count cases, the three cases of a Sampler
invocation, what `exec` answers for each operation, and what a step runs. -/

namespace Sys2Proof.Machine

/-- What `trigger` does when FIRE is false (R113). -/
@[simp] theorem State.trigger_false (s : State) : s.trigger false = s := rfl

/-- What `countPost` can do (R114): the count goes up, and the capture completes exactly when it meets the window. -/
theorem State.countPost_cases (s : State) :
    countUp s.postCounter = s.postCount ∧ s.countPost = (s.setPostCounter (countUp s.postCounter)).enterComplete ∨
    countUp s.postCounter ≠ s.postCount ∧ s.countPost = s.setPostCounter (countUp s.postCounter) := by
  unfold State.countPost
  by_cases h : countUp s.postCounter = s.postCount <;> simp [h]

/-- What one Sampler invocation can do (R117). -/
theorem State.sampler_cases (x : Word) (s : State) :
    s.state = .armed ∧ fire x (s.ringWord s.w) s.mask s.polarity = true ∧
      s.sampler x = ((s.latch x).trigger true).push x ∨
    s.state = .armed ∧ fire x (s.ringWord s.w) s.mask s.polarity = false ∧ s.sampler x = (s.latch x).push x ∨
    s.state = .triggered ∧ countUp s.postCounter = s.postCount ∧
      s.sampler x = (((s.latch x).setPostCounter (countUp s.postCounter)).enterComplete).push x ∨
    s.state = .triggered ∧ countUp s.postCounter ≠ s.postCount ∧
      s.sampler x = ((s.latch x).setPostCounter (countUp s.postCounter)).push x ∨
    s.state = .complete ∧ s.sampler x = s.latch x := by
  cases h : s.state with
  | armed =>
    cases hf : fire x (s.ringWord s.w) s.mask s.polarity <;>
      simp [State.sampler, State.dispatchTick, h, hf]
  | triggered =>
    by_cases hc : countUp s.postCounter = s.postCount
    · simp [State.sampler, State.dispatchTick, State.countPost, h, hc]
    · simp [State.sampler, State.dispatchTick, State.countPost, h, hc]
  | complete => simp [State.sampler, State.dispatchTick, h]

section meanings
variable (s : State)
@[simp] theorem exec_nop (id value : Word) : exec (.nop id value) s = .next s := rfl
@[simp] theorem exec_start (v : Word) :
    exec (.start v) s = .next (if s.state = .complete then s.rearm else s).openGate := rfl
@[simp] theorem exec_stop (v : Word) : exec (.stop v) s = .next s.enterComplete := rfl
@[simp] theorem exec_setPolarity (v : Word) : exec (.setPolarity v) s = .next (s.setPolarity v) := rfl
@[simp] theorem exec_setMask (v : Word) :
    exec (.setMask v) s = .next (if maskAccepted v then s.setMask v else s) := rfl
@[simp] theorem exec_setPeriodHi (v : Word) : exec (.setPeriodHi v) s = .next (s.setPeriodHi v).closeGate := rfl
@[simp] theorem exec_setPeriodLo (v : Word) : exec (.setPeriodLo v) s = .next (s.setPeriodLo v).closeGate := rfl
@[simp] theorem exec_setWindow (v : Word) :
    exec (.setWindow v) s = .next (if windowAccepted v then s.setPostCount (windowCount v) else s) := rfl
@[simp] theorem exec_reset : exec .reset s = .next s.resetRegisters := rfl
@[simp] theorem exec_tick (x : Word) : exec (.tick x) s = .next (if s.run then s.sampler x else s) := rfl
@[simp] theorem exec_peek (i : Index) : exec (.peek i) s = .next (s.driveReadPort (s.ringWord i)) := rfl
end meanings

@[simp] theorem execAll_nil (s : State) : execAll [] s = .next s := rfl

/-- Running a list of operations whose first answers a next state goes on from that state. -/
theorem execAll_cons {i : Instr} {rest : List Instr} {s t : State} (h : exec i s = .next t) :
    execAll (i :: rest) s = execAll rest t := by
  simp only [execAll, h]

/-- The pins of a cycle whose inputs are queued. -/
theorem State.pins_of_inputs {s : State} {p : Pins} {rest : List Pins} (h : s.inputs = p :: rest) : s.pins = p := by
  simp only [State.pins, h]

/-- What the pins of a cycle select (R77): PEEK always; then RESET alone, or the gated tick and the command. -/
theorem decodeCycle_cases (run : Bool) (p : Pins) :
    decodeCycle run p =
      .peek p.rdAddr ::
        (if p.rst then [.reset]
         else (if p.tick && run then [.tick p.sampleIn] else []) ++
           (if p.cmdValid then [decodeCommand p.cmdWord] else [])) := by
  obtain ⟨r, t, x, c, cw, a⟩ := p
  cases r <;> cases t <;> cases run <;> cases c <;>
    simp [decodeCycle, decodePinVector, pinVector, decodePresented]

/-- The order of one step (R176): PEEK, then RESET alone, or the gated tick and then the command on what it left. -/
theorem step_eq (s : State) :
    step s =
      (let s0 := s.advance.driveReadPort (s.ringWord s.pins.rdAddr)
       if s.pins.rst then .next s0.resetRegisters
       else
         let s1 := if s.pins.tick && s.run then s0.sampler s.pins.sampleIn else s0
         if s.pins.cmdValid then exec (decodeCommand s.pins.cmdWord) s1 else .next s1) := by
  rw [step, runCycle, decodeCycle_cases]
  rw [execAll_cons (exec_peek s.advance s.pins.rdAddr), State.advance_ringWord]
  cases hr : s.pins.rst <;> cases ht : s.pins.tick <;> cases hg : s.run <;> cases hc : s.pins.cmdValid <;>
    simp [execAll, exec_tick, exec_reset, hg] <;>
    (generalize decodeCommand s.pins.cmdWord = i; cases i <;> simp)

/-- The same, for a cycle whose pins are queued. -/
theorem step_of_inputs {s : State} {p : Pins} {rest : List Pins} (h : s.inputs = p :: rest) :
    step s =
      (let s0 := s.advance.driveReadPort (s.ringWord p.rdAddr)
       if p.rst then .next s0.resetRegisters
       else
         let s1 := if p.tick && s.run then s0.sampler p.sampleIn else s0
         if p.cmdValid then exec (decodeCommand p.cmdWord) s1 else .next s1) := by
  rw [step_eq, State.pins_of_inputs h]

/-- A run of `k + 1` steps begins with one step. -/
theorem run_succ (k : Nat) {s t : State} (h : step s = .next t) :
    Host.Core.run Sys2Proof.core (k + 1) s = Host.Core.run Sys2Proof.core k t := by
  have hc : Sys2Proof.core.step s = .next t := h
  simp only [Host.Core.run, hc]

end Sys2Proof.Machine
end

