-- ==== Sys2Proof/Laws/PerInstr.lean ====
section
/-! SUPPORT. Facts about every instruction as syntax, one lemma per constructor. Family `Format`: each operation is
presented in the format its row of spec/opcode_table.json has (R83). -/

namespace Sys2Proof.Laws.Format

/-- The pin row of an operation: commands go with a vector that selects no pin row but PEEK (R77). -/
def pinRow : Instr → PinRow
  | .nop _ _ => .peek
  | .start _ => .peek
  | .stop _ => .peek
  | .setPolarity _ => .peek
  | .setMask _ => .peek
  | .setPeriodHi _ => .peek
  | .setPeriodLo _ => .peek
  | .setWindow _ => .peek
  | .reset => .reset
  | .tick _ => .tick
  | .peek _ => .peek

/-- The encoder presents a CMD row on the command port, with its own word, and a PIN row on the pin vector alone. -/
def Statement (i : Instr) : Prop :=
  decodePinVector (pinVector true (encode i)) = pinRow i ∧
    (encode i).cmdValid = (encodeCommand i).isSome ∧ ∀ cw ∈ encodeCommand i, (encode i).cmdWord = cw

theorem nop (id value : Word) : Statement (.nop id value) := by simp [Statement, encode, encodeCommand, pinsCommand, pinsIdle, pinVector, decodePinVector, pinRow]
theorem start (v : Word) : Statement (.start v) := by simp [Statement, encode, encodeCommand, pinsCommand, pinsIdle, pinVector, decodePinVector, pinRow]
theorem stop (v : Word) : Statement (.stop v) := by simp [Statement, encode, encodeCommand, pinsCommand, pinsIdle, pinVector, decodePinVector, pinRow]
theorem setPolarity (v : Word) : Statement (.setPolarity v) := by simp [Statement, encode, encodeCommand, pinsCommand, pinsIdle, pinVector, decodePinVector, pinRow]
theorem setMask (v : Word) : Statement (.setMask v) := by simp [Statement, encode, encodeCommand, pinsCommand, pinsIdle, pinVector, decodePinVector, pinRow]
theorem setPeriodHi (v : Word) : Statement (.setPeriodHi v) := by simp [Statement, encode, encodeCommand, pinsCommand, pinsIdle, pinVector, decodePinVector, pinRow]
theorem setPeriodLo (v : Word) : Statement (.setPeriodLo v) := by simp [Statement, encode, encodeCommand, pinsCommand, pinsIdle, pinVector, decodePinVector, pinRow]
theorem setWindow (v : Word) : Statement (.setWindow v) := by simp [Statement, encode, encodeCommand, pinsCommand, pinsIdle, pinVector, decodePinVector, pinRow]
theorem reset : Statement .reset := by simp [Statement, encode, encodeCommand, pinsReset, pinsIdle, pinVector, decodePinVector, pinRow]
theorem tick (x : Word) : Statement (.tick x) := by simp [Statement, encode, encodeCommand, pinsTick, pinsIdle, pinVector, decodePinVector, pinRow]
theorem peek (i : Index) : Statement (.peek i) := by simp [Statement, encode, encodeCommand, pinsPeek, pinsIdle, pinVector, decodePinVector, pinRow]

end Sys2Proof.Laws.Format
end

