-- ==== Sys2Proof/Tests/Slice0.lean ====
section
/-! SUPPORT. The model's own tests: the WellFormed smoke test, each constructor's decoding from a word written out from
spec/30_encoding.md R74 and R83, single operations against the vectors of spec/95_test_vectors.md, and for each statement
with hypotheses a witness that meets them. -/

namespace Sys2Proof.Tests

open Sys2Proof.Machine Sys2Proof.Safety

/-! ### Well-formedness -/

theorem test_wf_refuses_nop_with_the_id_of_start : (Instr.nop 1 0).wf = false := by decide
theorem test_wf_refuses_nop_with_the_id_of_set_window : (Instr.nop 7 0).wf = false := by decide
theorem test_wf_accepts_nop_ids_0_8_65535 :
    (Instr.nop 0 5).wf = true ∧ (Instr.nop 8 1).wf = true ∧ (Instr.nop 0xFFFF 0x1234).wf = true := by decide

/-! ### Decoding: words written out bit by bit, id in bits 31..16, value in bits 15..0 (R71, R74) -/

theorem test_decode_nop : decodeCommand 0b00000000000010000000000000000001#32 = .nop 8 1 := by decide
theorem test_decode_start : decodeCommand 0b00000000000000011010101111001101#32 = .start 0xABCD := by decide
theorem test_decode_stop : decodeCommand 0b00000000000000101010101111001101#32 = .stop 0xABCD := by decide
theorem test_decode_set_polarity :
    decodeCommand 0b00000000000000110000000000000001#32 = .setPolarity 1 := by decide
theorem test_decode_set_mask : decodeCommand 0b00000000000001000000000000001000#32 = .setMask 8 := by decide
theorem test_decode_set_period_hi :
    decodeCommand 0b00000000000001010000000000000001#32 = .setPeriodHi 1 := by decide
theorem test_decode_set_period_lo :
    decodeCommand 0b00000000000001100010001101000101#32 = .setPeriodLo 0x2345 := by decide
theorem test_decode_set_window :
    decodeCommand 0b00000000000001110000010000000001#32 = .setWindow 1025 := by decide
theorem test_decode_id_9_is_nop : decodeCommand 0x00090001#32 = .nop 9 1 := by decide
theorem test_decode_pin_rows : decodePinVector 0b1111#4 = .reset ∧ decodePinVector 0b0111#4 = .tick ∧
    decodePinVector 0b0101#4 = .peek ∧ decodePinVector 0b0011#4 = .peek := by decide
theorem test_decode_cycle_tick_then_command :
    decodeCycle true { pinsCommand 0x00010000#32 with tick := true, sampleIn := 7, rdAddr := 3 } =
      [.peek 3, .tick 7, .start 0] := by decide
theorem test_decode_cycle_reset_alone :
    decodeCycle true { pinsCommand 0x00010000#32 with tick := true, rst := true } = [.peek 0, .reset] := by decide
theorem test_table_words : decodeTableWord 32 0x00070000 = some (.setWindow 0) ∧
    decodeTableWord 8 0x8 = some .reset ∧ decodeTableWord 8 0x6 = some (.tick 0) ∧
    decodeTableWord 8 0x0 = some (.peek 0) := by decide

/-! ### FIRE, rows of table 2.1 -/

theorem test_fire_true_rows :
    fire 0x0001 0x0000 0x0001 0x0001 ∧ fire 0x0000 0x0001 0x0001 0x0000 ∧ fire 0x8000 0x0000 0x8000 0x8000 ∧
    fire 0x0006 0x0004 0x0003 0x0002 ∧ fire 0xA5A5 0x5A5A 0x00F0 0x00A0 ∧ fire 0x0003 0x0000 0x0003 0x0001 := by
  decide
theorem test_fire_false_rows :
    fire 0x0000 0x0001 0x0001 0x0001 = false ∧ fire 0x0008 0x0000 0x0008 0x0000 = false ∧
    fire 0x8000 0x0000 0x7FFF 0x8000 = false ∧ fire 0x0005 0x0004 0x0003 0x0002 = false ∧
    fire 0x1234 0x1234 0xFFFF 0x1234 = false := by decide

/-! ### Single operations, from tables 2.2 to 2.6 -/

/-- A state with `mask = polarity = 0x0001`, the write index at `w` and `buf[w] = old`. -/
def bench (c : CaptureState) (run : Bool) (w : Index) (count window : Count) (old : Word) : State :=
  { State.reset with
    state := c, run := run, w := w, postCounter := count, postCount := window, buf := [(w.toNat, old)] }

/-- What an outcome's next state shows: state, `run`, `w`, `post_counter`. -/
def seen : Host.Outcome State Fault Refusal → Option (CaptureState × Bool × Index × Count)
  | .next t => some (t.state, t.run, t.w, t.postCounter)
  | .fault _ => none
  | .refused _ => none

/-- A value read from an outcome's next state. -/
def got {α : Type} (f : State → α) : Host.Outcome State Fault Refusal → Option α
  | .next t => some (f t)
  | .fault _ => none
  | .refused _ => none

theorem test_nop_keeps_run :
    seen (exec (decodeCommand 0xFFFF1234#32) (bench .triggered true 6 2 4 0)) = some (.triggered, true, 6, 2) := by
  decide
theorem test_start_rearms_from_complete :
    seen (exec (.start 0xABCD) (bench .complete false 6 4 4 0)) = some (.armed, true, 6, 0) := by decide
theorem test_start_resumes_in_triggered :
    seen (exec (.start 0) (bench .triggered false 6 2 4 0)) = some (.triggered, true, 6, 2) := by decide
theorem test_stop_keeps_the_count :
    seen (exec (.stop 0) (bench .triggered true 6 2 4 0)) = some (.complete, false, 6, 2) := by decide
theorem test_set_polarity :
    got (fun t => (t.polarity, t.run)) (exec (.setPolarity 0xFFFF) (bench .armed true 6 0 4 0)) =
      some (0xFFFF, true) := by decide
theorem test_set_mask_zero_is_rejected :
    got State.mask (exec (.setMask 0) (bench .armed true 6 0 4 0)) = some 1 := by decide
theorem test_set_mask :
    got (fun t => (t.mask, t.run)) (exec (.setMask 0x8000) (bench .armed true 6 0 4 0)) = some (0x8000, true) := by
  decide
theorem test_set_window_1025_is_rejected :
    got State.postCount (exec (.setWindow 1025) (bench .armed true 6 0 4 0)) = some 4 := by decide
theorem test_set_window_1024 :
    got State.postCount (exec (.setWindow 1024) (bench .armed true 6 0 4 0)) = some 1024 := by decide
theorem test_set_period_hi_in_triggered :
    got (fun t => (t.state, t.run, t.postCounter, t.periodHi)) (exec (.setPeriodHi 7) (bench .triggered true 6 2 4 0)) =
      some (.triggered, false, 2, 7) := by decide
theorem test_set_period_lo :
    got (fun t => (t.run, t.periodLo)) (exec (.setPeriodLo 0x2345) (bench .armed true 6 0 4 0)) =
      some (false, 0x2345) := by decide
theorem test_reset_keeps_the_ring :
    got (fun t => (t.state, t.w, t.postCount, t.ringWord 6)) (exec .reset (bench .complete false 6 2 4 9)) =
      some (.armed, 0, 300, 9) := by decide
theorem test_tick_fires_at_the_wrap :
    got (fun t => (t.state, t.run, t.w, t.ringWord 1023)) (exec (.tick 1) (bench .armed true 1023 0 3 0)) =
      some (.triggered, true, 0, 1) := by decide
theorem test_tick_completes_and_pushes :
    got (fun t => (t.state, t.run, t.w, t.postCounter, t.ringWord 10, t.cur))
      (exec (.tick 0x1234) (bench .triggered true 10 2 3 0)) = some (.complete, false, 11, 3, 0x1234, 0x1234) := by
  decide
theorem test_tick_count_saturates :
    seen (exec (.tick 1) (bench .triggered true 10 2047 3 0)) = some (.triggered, true, 11, 2047) := by decide
theorem test_peek : got State.rdData (exec (.peek 1023) (bench .armed true 1023 0 3 0xBEEF)) = some 0xBEEF := by decide

/-- The step `T 1 ; SET_MASK 0x0002` of table 2.6: the tick uses the old mask. -/
theorem test_step_tick_before_command :
    got (fun t => (t.state, t.mask, t.w, t.ringWord 1))
      (step { bench .armed true 1 0 1 0 with
        inputs := [{ pinsCommand 0x00040002#32 with tick := true, sampleIn := 1 }] }) =
      some (.triggered, 2, 2, 1) := by decide

/-- The step `T 1 ; START` of table 2.6: the tick completes, then START re-arms. -/
theorem test_step_completing_tick_then_start :
    seen (step { bench .triggered true 2 0 1 0 with
        inputs := [{ pinsCommand 0x00010000#32 with tick := true, sampleIn := 1 }] }) = some (.armed, true, 3, 0) := by
  decide

/-- The step `t 1 ; START` of table 2.6: the strobe is dropped. -/
theorem test_step_start_does_not_admit_its_tick :
    got (fun t => (t.run, t.w, t.cur)) (step { bench .armed false 0 0 1 0 with
        inputs := [{ pinsCommand 0x00010000#32 with tick := true, sampleIn := 1 }] }) = some (true, 0, 0) := by
  decide

/-- The host's way to place an instruction: each of the three PIN rows and a command runs as the first step. -/
theorem test_with_fetch_word :
    got State.w (step (State.reset.withFetchWord 8 0x6)) = some 1 ∧
    got State.postCount (step (State.reset.withFetchWord 8 0x8)) = some 300 ∧
    got State.w (step (State.reset.withFetchWord 8 0x0)) = some 0 ∧
    got State.run (step (State.reset.withFetchWord 32 0x00010000)) = some true := by decide

/-! ### Witnesses: a concrete state and operands that meet all the hypotheses of a statement -/

/-- A tick cycle with the sample 1. -/
def tick1 : Pins := pinsTick 1

/-- A cycle that presents a command word and a tick with the sample 1. -/
def both (cw : CommandWord) : Pins := { pinsCommand cw with tick := true, sampleIn := 1 }

/-- A state whose next cycles have the given pins. -/
def queued (s : State) (ps : List Pins) : State := { s with inputs := ps }

theorem witness_DecodeOfEncodeIsTheInstruction : (Instr.nop 0xFFFF 1).wf = true ∧
    encodeCommand (.setWindow 4) = some 0x00070004#32 := by decide
theorem witness_NopChangesNothing_ids_0_8_65535 : ((0 : Word) = 0 ∨ 8 ≤ (0 : Word).toNat) ∧
    ((8 : Word) = 0 ∨ 8 ≤ (8 : Word).toNat) ∧ ((0xFFFF : Word) = 0 ∨ 8 ≤ (0xFFFF : Word).toNat) := by decide
theorem witness_IgnoredValuesHaveNoInfluence : (8 : Word) = 0 ∨ 8 ≤ (8 : Word).toNat := by decide
theorem witness_StartOpensTheGateAndRearmsFromComplete :
    let s := queued (bench .triggered true 10 2 3 0) [both (commandWord 1 5)]
    s.inputs = both (commandWord 1 5) :: [] ∧ Presents 1 5 (both (commandWord 1 5)) ∧
      (both (commandWord 1 5)).tick = true ∧ s.run = true ∧ s.state = .triggered ∧
      min (s.postCounter.toNat + 1) 2047 = s.postCount.toNat :=
  ⟨rfl, ⟨rfl, rfl, rfl⟩, rfl, rfl, rfl, by decide⟩
theorem witness_StopEntersCompleteAndClosesTheGate :
    let s := queued (bench .armed true 10 0 3 0) [both (commandWord 2 5)]
    s.inputs = both (commandWord 2 5) :: [] ∧ Presents 2 5 (both (commandWord 2 5)) ∧
      (both (commandWord 2 5)).tick = true ∧ s.run = true ∧ s.state ≠ .complete :=
  ⟨rfl, ⟨rfl, rfl, rfl⟩, rfl, rfl, by decide⟩
theorem witness_SetWindowStoresAWindowInRange :
    (1 ≤ (1 : Word).toNat ∧ (1 : Word).toNat ≤ 1024) ∧ (1 ≤ (1024 : Word).toNat ∧ (1024 : Word).toNat ≤ 1024) ∧
    ((0 : Word).toNat = 0 ∨ 1024 < (0 : Word).toNat) ∧ ((1025 : Word).toNat = 0 ∨ 1024 < (1025 : Word).toNat) := by
  decide
theorem witness_ResetStepSetsEveryRegister :
    (queued State.reset [pinsReset]).inputs = pinsReset :: [] ∧ pinsReset.rst = true := ⟨rfl, rfl⟩
theorem witness_PowerUpStateIsTheResetTable :
    (queued State.reset [pinsReset]).inputs = pinsReset :: [] ∧ pinsReset.rst = true := ⟨rfl, rfl⟩
theorem witness_AfterResetOnlyACommandCanChangeTheState : ∀ p ∈ [tick1, pinsIdle], NoHost p := by
  simp [tick1, pinsTick, pinsIdle, NoHost]
theorem witness_StrobeWithTheGateClosedIsDropped :
    let s := queued (bench .armed false 10 0 3 0) [tick1]
    s.run = false ∧ s.inputs = tick1 :: [] := ⟨rfl, rfl⟩
theorem witness_TickIsTheSamplerSequence : (bench .armed true 10 0 3 0).run = true := rfl
theorem witness_TickInArmed_fires : (bench .armed true 10 0 3 0).run = true ∧
    (bench .armed true 10 0 3 0).state = .armed ∧ Fires 1 (bench .armed true 10 0 3 0) :=
  ⟨rfl, rfl, 0, by decide⟩
theorem witness_TickInArmed_does_not_fire : (bench .armed true 10 0 3 0).run = true ∧
    (bench .armed true 10 0 3 0).state = .armed ∧ ¬ Fires 0 (bench .armed true 10 0 3 0) :=
  ⟨rfl, rfl, by unfold Fires; decide⟩
theorem witness_TickInTriggered_both_clauses :
    (bench .triggered true 10 2 3 0).run = true ∧ (bench .triggered true 10 2 3 0).state = .triggered ∧
    countUp (bench .triggered true 10 2 3 0).postCounter = (bench .triggered true 10 2 3 0).postCount ∧
    countUp (bench .triggered true 10 3 3 0).postCounter ≠ (bench .triggered true 10 3 3 0).postCount := by decide
theorem witness_TickInCompleteOnlyLatches :
    (bench .complete true 10 3 3 0).run = true ∧ (bench .complete true 10 3 3 0).state = .complete := ⟨rfl, rfl⟩
/-- A state and a cycle for each clause: no command, a SET_POLARITY, a reset. -/
theorem witness_UnmaskedPolarityHasNoEffect :
    let s := queued (bench .armed true 10 0 3 0)
    (s [tick1]).mask &&& (s [tick1]).polarity = (s [tick1]).mask &&& 0xFFFF ∧
      ¬ WritesPolarity (s [tick1]).pins ∧ NoMaskChange (s [tick1]).pins ∧
      WritesPolarity (s [both (commandWord 3 5)]).pins ∧ WritesPolarity (s [pinsReset]).pins :=
  ⟨by decide, by unfold WritesPolarity; decide, by unfold NoMaskChange; decide, .inr ⟨rfl, rfl⟩, .inl rfl⟩
theorem witness_PeekReadsThePreStepContents :
    let s := queued (bench .armed true 10 0 3 0) [tick1]
    s.inputs = tick1 :: [] ∧ tick1.rst = false ∧ tick1.tick = true ∧ s.run = true ∧ s.state ≠ .complete :=
  ⟨rfl, rfl, rfl, rfl, by decide⟩
theorem witness_RingHoldsTheNewestPushes :
    1023 < 1024 ∧ ([5, 6] : List Word).reverse[1]? = some 5 ∧ ([5, 6] : List Word).length ≤ 1023 := by decide
theorem witness_StepRunsThePresentedInstruction :
    (Instr.tick 1).wf = true ∧ (queued State.reset [encode (.tick 1)]).inputs = encode (.tick 1) :: [] := ⟨rfl, rfl⟩
theorem witness_StepOrderIsResetThenTickThenCommand :
    (queued (bench .armed true 10 0 3 0) [both 0x00020000]).inputs = both 0x00020000 :: [] := rfl
theorem witness_IdleStepLeavesTheBlockUnchanged :
    let s := queued (bench .armed false 10 0 3 0) [tick1]
    s.inputs = tick1 :: [] ∧ tick1.rst = false ∧ (tick1.tick = false ∨ s.run = false) ∧ tick1.cmdValid = false :=
  ⟨rfl, rfl, .inr rfl, rfl⟩
theorem witness_StartDoesNotAdmitTheTickOfItsStep :
    let s := queued (bench .armed false 10 0 3 0) [both (commandWord 1 0)]
    s.inputs = both (commandWord 1 0) :: [] ∧ Presents 1 0 (both (commandWord 1 0)) ∧ s.run = false ∧
      s.state ≠ .complete := ⟨rfl, ⟨rfl, rfl, rfl⟩, rfl, by decide⟩
theorem witness_SettingsDoNotReachTheTickOfTheirStep :
    let s := queued (bench .armed true 10 0 3 0) [both (commandWord 7 1024)]
    ((7 : Word) = 3 ∨ (7 : Word) = 4 ∨ (7 : Word) = 7) ∧ s.inputs = both (commandWord 7 1024) :: [] ∧
      Presents 7 1024 (both (commandWord 7 1024)) ∧ 1 ≤ (1024 : Word).toNat ∧ (1024 : Word).toNat ≤ 1024 :=
  ⟨by decide, rfl, ⟨rfl, rfl, rfl⟩, by decide, by decide⟩
theorem witness_EveryStepKeepsTheInvariants :
    BlockInv (queued State.reset [tick1]) ∧ ∃ t, step (queued State.reset [tick1]) = .next t := by
  refine ⟨⟨⟨?_, ?_, ?_, ?_, ?_⟩, Memory.powerUp_wf⟩, _, rfl⟩ <;> simp [queued]
theorem witness_EveryReachableStateHasTheInvariants : ∃ t, Reaches 1
    { State.reset with state := .armed, run := false, postCounter := 0, w := 0, cur := 0, mask := 1, polarity := 1,
                       postCount := 300, inputs := [pinsCommand 0x00010000#32] } t := ⟨_, rfl⟩
theorem witness_CountStaysBelowAnUnchangedWindow :
    let s := queued (bench .triggered true 10 2 3 0) [tick1]
    s.inputs = tick1 :: [] ∧ ControlInv s ∧ WindowAhead s ∧ NoWindowChange tick1 ∧ (∃ t, step s = .next t) ∧
      s.state ≠ .complete ∧ tick1.cmdValid = false ∧ ∃ t, step s = .next t ∧ t.state = .complete :=
  ⟨rfl, ⟨by decide, by decide, by decide, by decide, by decide⟩, fun _ => by decide,
    fun _ h => absurd h (by decide), ⟨_, rfl⟩, by decide, rfl, _, rfl, by decide⟩
/-- The third clause with a STOP beside the completing tick. -/
theorem witness_CountStaysBelowAnUnchangedWindow_stop_beside_the_tick :
    let p := both (commandWord 2 0)
    let s := queued (bench .triggered true 10 2 3 0) [p]
    s.inputs = p :: [] ∧ ControlInv s ∧ WindowAhead s ∧ NoWindowChange p ∧ p.rst = false ∧ p.tick = true ∧
      s.run = true ∧ s.state ≠ .complete ∧
      (∃ u, exec (.tick p.sampleIn) s = .next u ∧ u.state = .complete) ∧
      ∃ t, step s = .next t ∧ t.state = .complete :=
  ⟨rfl, ⟨by decide, by decide, by decide, by decide, by decide⟩, fun _ => by decide,
    fun _ _ h => absurd h (by decide), rfl, rfl, rfl, by decide, ⟨_, rfl, by decide⟩, _, rfl, by decide⟩
theorem witness_OnlyListedEventsChangeTheCaptureState :
    ∃ t, exec (.stop 0) (bench .triggered true 10 2 3 0) = .next t ∧ t.state ≠ .triggered := ⟨_, rfl, by decide⟩
theorem witness_OnlyListedOperationsWriteTheGate :
    (∃ t, exec (.start 0) (bench .armed false 10 0 3 0) = .next t ∧ (bench .armed false 10 0 3 0).run = false ∧
      t.run = true) ∧
    ∃ t, step (queued (bench .triggered true 10 2 3 0) [tick1]) = .next t ∧
      (queued (bench .triggered true 10 2 3 0) [tick1]).state ≠ .complete ∧ t.state = .complete :=
  ⟨⟨_, rfl, rfl, by decide⟩, _, rfl, by decide, by decide⟩
theorem witness_EachItemHasOnlyItsWriters :
    ∃ t, exec (.nop 0 0) (bench .armed true 10 0 3 0) = .next t ∧ (∀ x, Instr.nop 0 0 ≠ .tick x) ∧
      (∀ v, Instr.nop 0 0 ≠ .start v) ∧ (∀ v, Instr.nop 0 0 ≠ .stop v) ∧ (∀ v, Instr.nop 0 0 ≠ .setPeriodHi v) ∧
      (∀ v, Instr.nop 0 0 ≠ .setPeriodLo v) ∧ (∀ a, Instr.nop 0 0 ≠ .peek a) ∧ Instr.nop 0 0 ≠ .reset :=
  ⟨_, rfl, by simp, by simp, by simp, by simp, by simp, by simp, by simp⟩
/-- The hypotheses of CaptureCompletesWithItsWindow. -/
def CaptureHypotheses (s : State) (p : Pins) (ps rest : List Pins) : Prop :=
  s.state = .armed ∧ s.run = true ∧ 1 ≤ s.postCount.toNat ∧ s.postCount.toNat ≤ 1024 ∧ s.inputs = p :: ps ++ rest ∧
    ps.length = s.postCount.toNat ∧ (∀ q ∈ p :: ps, OnlyTick q) ∧ Fires p.sampleIn s

/-- A waveform that fires at the first tick and goes on for a window of `n` samples. -/
def capture (n : Count) : State := queued (bench .armed true 10 0 n 0) (tick1 :: List.replicate n.toNat tick1)

theorem capture_meets_the_hypotheses (n : Count) (h1 : 1 ≤ n.toNat) (h2 : n.toNat ≤ 1024) :
    CaptureHypotheses (capture n) tick1 (List.replicate n.toNat tick1) [] := by
  have ht : OnlyTick tick1 := ⟨rfl, rfl, rfl⟩
  have hf : Fires tick1.sampleIn (bench .armed true 10 0 0 0) := ⟨0, by decide⟩
  exact ⟨rfl, rfl, h1, h2, (List.append_nil _).symm, List.length_replicate, by simpa using ⟨ht, fun _ => ht⟩, hf⟩
theorem witness_CaptureCompletesWithItsWindow_at_1 :
    CaptureHypotheses (capture 1) tick1 (List.replicate 1 tick1) [] ∧ (capture 1).postCount.toNat ≤ 1023 :=
  ⟨capture_meets_the_hypotheses 1 (by decide) (by decide), by decide⟩
theorem witness_CaptureCompletesWithItsWindow_at_1023 :
    CaptureHypotheses (capture 1023) tick1 (List.replicate 1023 tick1) [] ∧ (capture 1023).postCount.toNat ≤ 1023 :=
  ⟨capture_meets_the_hypotheses 1023 (by decide) (by decide), by decide⟩
theorem witness_CaptureCompletesWithItsWindow_at_1024 :
    CaptureHypotheses (capture 1024) tick1 (List.replicate 1024 tick1) [] :=
  capture_meets_the_hypotheses 1024 (by decide) (by decide)
theorem witness_StopInTriggeredLeavesThePartialWindow :
    let q := pinsCommand (commandWord 2 0)
    let s := queued (bench .armed true 10 0 4 0) [tick1, tick1, q]
    s.state = .armed ∧ s.run = true ∧ s.postCount.toNat ≤ 1024 ∧ s.inputs = tick1 :: [tick1] ++ q :: [] ∧
      [tick1].length < s.postCount.toNat ∧ (∀ r ∈ tick1 :: [tick1], OnlyTick r) ∧ Fires tick1.sampleIn s ∧
      Presents 2 0 q ∧ q.tick = false :=
  ⟨rfl, rfl, by decide, rfl, by decide, by simp [tick1, pinsTick, pinsIdle, OnlyTick], ⟨0, by decide⟩,
    ⟨rfl, rfl, rfl⟩, rfl⟩
theorem witness_WithoutFireTheStateStaysArmed :
    let s := queued (bench .armed true 10 0 3 0) [pinsTick 0]
    s.state = .armed ∧ s.run = true ∧ s.inputs = [pinsTick 0] ++ [] ∧ (∀ p ∈ [pinsTick 0], OnlyTick p) ∧
      ∀ k u p, Reaches k s u → [pinsTick 0][k]? = some p → ¬ Fires p.sampleIn u := by
  refine ⟨rfl, rfl, rfl, by simp [pinsTick, pinsIdle, OnlyTick], ?_⟩
  intro k u p hr hp
  cases k with
  | zero => cases hr; cases hp; unfold Fires; decide
  | succ k => simp at hp
theorem witness_APassedWindowNeverCompletes :
    let s := queued (bench .triggered true 10 3 3 0) [tick1]
    s.state = .triggered ∧ s.run = true ∧ s.postCount.toNat ≤ s.postCounter.toNat ∧ s.postCount.toNat ≤ 1024 ∧
      s.inputs = [tick1] ++ [] ∧ ∀ p ∈ [tick1], OnlyTick p :=
  ⟨rfl, rfl, by decide, by decide, rfl, by simp [tick1, pinsTick, pinsIdle, OnlyTick]⟩
theorem witness_TheBufferIsFrozenInComplete :
    let s := queued (bench .complete false 10 3 3 0) [tick1, pinsPeek 10]
    s.state = .complete ∧ s.run = false ∧ s.inputs = [tick1, pinsPeek 10] ++ [] ∧
      (∀ p ∈ [tick1, pinsPeek 10], LeavesFrozen p) ∧
      ∃ s0 t : State, s0.state ≠ .complete ∧ step s0 = .next t ∧ t.state = .complete :=
  ⟨rfl, rfl, rfl, by simp [tick1, pinsTick, pinsPeek, pinsIdle, LeavesFrozen],
    queued (bench .triggered true 10 2 3 0) [tick1], _, by decide, rfl, by decide⟩
theorem witness_PeriodRoundTrip :
    let a := pinsCommand (commandWord 5 ((0x00012345#32 : Period).extractLsb' 16 16))
    let b := pinsCommand (commandWord 6 ((0x00012345#32 : Period).extractLsb' 0 16))
    let s := queued State.reset [a, tick1, b]
    s.inputs = a :: [tick1] ++ b :: [] ++ [] ∧ (∀ p ∈ [tick1] ++ [], LeavesPeriod p) ∧
      Presents 5 ((0x00012345#32 : Period).extractLsb' 16 16) a ∧
      Presents 6 ((0x00012345#32 : Period).extractLsb' 0 16) b :=
  ⟨rfl, by simp [tick1, pinsTick, pinsIdle, LeavesPeriod], ⟨rfl, rfl, rfl⟩, ⟨rfl, rfl, rfl⟩⟩

end Sys2Proof.Tests
end

section
/-! PROOF. What a reset leaves: the register table, and the step whose pins hold `rst` (spec/10_state.md R39). -/

namespace Sys2Proof.Proofs

open Sys2Proof.Machine Sys2Proof.Safety

/-- The two halves that a reset stores make up the whole reset period (R31, R39). -/
@[simp] theorem periodOf_periodReset_halves :
    periodOf (Config.periodReset.extractLsb' 16 16) (Config.periodReset.extractLsb' 0 16) = Config.periodReset :=
  append_halves Config.periodReset

/-- RESET_STATE gives the table of R39 in every state. -/
theorem resetRegisters_meets_table (s : State) : ResetRegisters s.resetRegisters := by
  simp [ResetRegisters, Config.maskReset, Config.polarityReset, Config.postCountReset]

/-- The power-up state has nothing left to reset. -/
theorem resetRegisters_reset : State.reset.resetRegisters = State.reset := rfl

/-- A step with `rst = 1` (R176): the read of the pre-step ring, then RESET, whatever else the pins hold. -/
theorem step_of_rst {s : State} {p : Pins} {rest : List Pins} (h : s.inputs = p :: rest) (hr : p.rst = true) :
    step s = .next (s.advance.driveReadPort (s.ringWord p.rdAddr)).resetRegisters := by
  simp [step_of_inputs h, hr]

/-- Settles O16: the power-up state is a fixed point of RESET_STATE over the ring `BUF_RESET`, and a step with `rst = 1`
ends in RESET_STATE, which does not write the ring. -/
theorem powerUpStateIsTheResetTable : Obligations.PowerUpStateIsTheResetTable := by
  refine ⟨?powerUp, ?ring, fun s p rest hin hrst => ?laterReset⟩
  case powerUp => exact resetRegisters_reset ▸ resetRegisters_meets_table State.reset
  case ring => exact Memory.read_powerUp
  case laterReset =>
    have hring : SameRing s (s.advance.driveReadPort (s.ringWord p.rdAddr)).resetRegisters := fun a => by simp
    exact ⟨_, step_of_rst hin hrst, resetRegisters_meets_table _, hring⟩

end Sys2Proof.Proofs
end

section
/-! PROOF. What a step that enters COMPLETE has done to the gate (INV1, spec/70_reset_and_hazards.md R216): every
operation keeps `run = 0` in COMPLETE, so every step does. -/

namespace Sys2Proof.Proofs

open Sys2Proof.Machine Sys2Proof.Safety

/-- INV1 alone (R216): in COMPLETE the gate is closed. It is the field `frozen` of `ControlInv`. -/
def GateClosedInComplete (s : State) : Prop := s.state = .complete → s.run = false

/-- What every operation keeps, a list of operations keeps. -/
theorem execAll_keeps {P : State → Prop} (hexec : ∀ i s t, P s → exec i s = .next t → P t) :
    ∀ (is : List Instr) (s t : State), P s → execAll is s = .next t → P t
  | [], s, t, hs, h => by
    rw [execAll_nil] at h
    cases h
    exact hs
  | i :: rest, s, t, hs, h => by
    cases hi : exec i s with
    | next u => exact execAll_keeps hexec rest u t (hexec i s u hs hi) (execAll_cons hi ▸ h)
    | fault r => cases r
    | refused r => simp [execAll, hi] at h

/-- What the clock edge and every operation keep, a step keeps. -/
theorem step_keeps {P : State → Prop} (hadvance : ∀ s, P s → P s.advance)
    (hexec : ∀ i s t, P s → exec i s = .next t → P t) {s t : State} (hs : P s) (h : step s = .next t) : P t :=
  execAll_keeps hexec _ _ _ (hadvance s hs) h

/-- A Sampler invocation enters COMPLETE only with the gate closed, and in COMPLETE leaves the gate alone (R117). -/
theorem sampler_keeps_gateClosedInComplete (x : Word) {s : State} (hs : GateClosedInComplete s) :
    GateClosedInComplete (s.sampler x) := by
  unfold GateClosedInComplete at *
  obtain ⟨-, -, h⟩ | ⟨ha, -, h⟩ | ⟨-, -, h⟩ | ⟨ht, -, h⟩ | ⟨-, h⟩ := s.sampler_cases x <;> rw [h]
  · simp
  · simp [ha]
  · simp
  · simp [ht]
  · simpa using hs

/-- STOP and the period commands close the gate, START and RESET leave COMPLETE, and nothing else but a tick touches
either (R137). -/
theorem exec_keeps_gateClosedInComplete (i : Instr) (s t : State) (hs : GateClosedInComplete s)
    (h : exec i s = .next t) : GateClosedInComplete t := by
  cases i with
  | nop id v => cases h; exact hs
  | start v =>
    cases h
    intro hc
    by_cases hcomplete : s.state = .complete <;> simp [hcomplete] at hc
  | stop v => cases h; exact fun _ => rfl
  | setPolarity v => cases h; exact hs
  | setMask v => cases h; cases maskAccepted v <;> exact hs
  | setPeriodHi v => cases h; exact fun _ => rfl
  | setPeriodLo v => cases h; exact fun _ => rfl
  | setWindow v => cases h; cases windowAccepted v <;> exact hs
  | reset => cases h; exact fun _ => rfl
  | tick x =>
    cases h
    cases s.run
    · exact hs
    · exact sampler_keeps_gateClosedInComplete x hs
  | peek a => cases h; exact hs

/-- INV1 as a step lemma (R216). -/
theorem step_keeps_gateClosedInComplete {s t : State} (hs : GateClosedInComplete s) (h : step s = .next t) :
    GateClosedInComplete t :=
  step_keeps (fun _ hs => hs) exec_keeps_gateClosedInComplete hs h

/-- A step that enters COMPLETE stops the ticks (R60, R177). -/
theorem run_of_step_entering_complete {s t : State} (hs : s.state ≠ .complete) (h : step s = .next t)
    (ht : t.state = .complete) : t.run = false :=
  step_keeps_gateClosedInComplete (fun hc => absurd hc hs) h ht

end Sys2Proof.Proofs
end

section
/-! PROOF. The frozen buffer (spec/20_memory.md R60): in COMPLETE with the gate closed, a cycle without START and
without reset keeps the capture, and so does any list of such cycles. -/

namespace Sys2Proof.Proofs

open Sys2Proof.Machine Sys2Proof.Safety

/-- `t` still holds what `s` captured: the Capture State, the gate, the write index and every word of the ring. -/
structure SameCapture (s t : State) : Prop where
  state : t.state = s.state
  run : t.run = s.run
  w : t.w = s.w
  ring : SameRing s t

theorem SameCapture.refl (s : State) : SameCapture s s := ⟨rfl, rfl, rfl, fun _ => rfl⟩

theorem SameCapture.trans {s t u : State} (hst : SameCapture s t) (htu : SameCapture t u) : SameCapture s u :=
  ⟨htu.state.trans hst.state, htu.run.trans hst.run, htu.w.trans hst.w, fun a => (htu.ring a).trans (hst.ring a)⟩

/-- A command word decodes to a command that encodes back to it (R75). -/
theorem encodeCommand_decodeCommand (cw : CommandWord) : encodeCommand (decodeCommand cw) = some cw := by
  have hfields := commandWord_fields cw
  unfold decodeCommand
  split_ifs <;> simp_all [encodeCommand]

/-- In COMPLETE with the gate closed, every command but START keeps the capture, and the read port and the queue with
it (R60, R132). -/
theorem exec_command_keeps_capture {i : Instr} {cw : CommandWord} {s : State} (hi : encodeCommand i = some cw)
    (hid : cmdId cw ≠ 1#16) (hc : s.state = .complete) (hr : s.run = false) :
    ∃ t, exec i s = .next t ∧ SameCapture s t ∧ t.inputs = s.inputs ∧ t.rdData = s.rdData := by
  cases i with
  | nop id v => exact ⟨s, rfl, .refl s, rfl, rfl⟩
  | start v =>
    cases hi
    exact absurd (cmdId_commandWord 1#16 v) hid
  | stop v => exact ⟨_, rfl, ⟨hc.symm, hr.symm, rfl, fun _ => rfl⟩, rfl, rfl⟩
  | setPolarity v => exact ⟨_, rfl, ⟨rfl, rfl, rfl, fun _ => rfl⟩, rfl, rfl⟩
  | setMask v =>
    cases hv : maskAccepted v
    · exact ⟨s, by simp [hv], .refl s, rfl, rfl⟩
    · exact ⟨s.setMask v, by simp [hv], ⟨rfl, rfl, rfl, fun _ => rfl⟩, rfl, rfl⟩
  | setPeriodHi v => exact ⟨_, rfl, ⟨rfl, hr.symm, rfl, fun _ => rfl⟩, rfl, rfl⟩
  | setPeriodLo v => exact ⟨_, rfl, ⟨rfl, hr.symm, rfl, fun _ => rfl⟩, rfl, rfl⟩
  | setWindow v =>
    cases hv : windowAccepted v
    · exact ⟨s, by simp [hv], .refl s, rfl, rfl⟩
    · exact ⟨s.setPostCount (windowCount v), by simp [hv], ⟨rfl, rfl, rfl, fun _ => rfl⟩, rfl, rfl⟩
  | reset => cases hi
  | tick x => cases hi
  | peek a => cases hi

/-- With the gate closed and no reset, a step is its read and then its command, if it has one: a strobe has no part in
it (R120). -/
theorem step_of_gate_closed {s : State} {p : Pins} {rest : List Pins} (hin : s.inputs = p :: rest)
    (hrst : p.rst = false) (hr : s.run = false) :
    step s = if p.cmdValid then exec (decodeCommand p.cmdWord) (s.advance.driveReadPort (s.ringWord p.rdAddr))
      else .next (s.advance.driveReadPort (s.ringWord p.rdAddr)) := by
  simp [step_of_inputs hin, hrst, hr]

/-- One cycle of R60: the capture stays, and the read port answers the captured word. -/
theorem step_keeps_capture {s : State} {p : Pins} {rest : List Pins} (hin : s.inputs = p :: rest)
    (hp : LeavesFrozen p) (hc : s.state = .complete) (hr : s.run = false) :
    ∃ t, step s = .next t ∧ SameCapture s t ∧ t.inputs = rest ∧ t.rdData = s.ringWord p.rdAddr := by
  obtain ⟨hrst, hcmd⟩ := hp
  have hread : SameCapture s (s.advance.driveReadPort (s.ringWord p.rdAddr)) := ⟨rfl, rfl, rfl, fun _ => rfl⟩
  have hrest : s.advance.inputs = rest := by simp [hin]
  rw [step_of_gate_closed hin hrst hr]
  cases hv : p.cmdValid with
  | false => exact ⟨_, rfl, hread, hrest, rfl⟩
  | true =>
    obtain ⟨t, hexec, hcapture, hinputs, hdata⟩ :=
      exec_command_keeps_capture (encodeCommand_decodeCommand p.cmdWord) (hcmd hv) (hread.state.trans hc)
        (hread.run.trans hr)
    exact ⟨t, hexec, hread.trans hcapture, hinputs.trans hrest, hdata⟩

/-- A step and then a run of `k` steps make a run of `k + 1` steps. -/
theorem reaches_succ {k : Nat} {s t u : State} (hstep : step s = .next t) (hrun : Reaches k t u) :
    Reaches (k + 1) s u :=
  (run_succ k hstep).trans hrun

/-- The word on the read port after the cycles `ps`, over a ring that reads as that of `s`: the last cycle's address
selects it, and without a cycle it is what it was. -/
def lastRead (s : State) (ps : List Pins) (before : Word) : Word :=
  ps.foldl (fun _ p => s.ringWord p.rdAddr) before

theorem lastRead_of_getLast? (s : State) (ps : List Pins) (before : Word) {p : Pins} (h : ps.getLast? = some p) :
    lastRead s ps before = s.ringWord p.rdAddr := by
  obtain ⟨init, rfl⟩ := List.getLast?_eq_some_iff.mp h
  simp [lastRead]

theorem lastRead_congr {s t : State} (h : SameRing s t) (ps : List Pins) (before : Word) :
    lastRead t ps before = lastRead s ps before := by
  simp only [lastRead, h _]

/-- Any list of cycles of R60, by induction on the list. -/
theorem cycles_keep_capture (ps rest : List Pins) : ∀ s : State, s.inputs = ps ++ rest →
    (∀ p ∈ ps, LeavesFrozen p) → s.state = .complete → s.run = false →
    ∃ t, Reaches ps.length s t ∧ SameCapture s t ∧ t.inputs = rest ∧ t.rdData = lastRead s ps s.rdData := by
  induction ps with
  | nil => exact fun s hin _ _ _ => ⟨s, rfl, .refl s, hin, rfl⟩
  | cons p ps ih =>
    intro s hin hps hc hr
    obtain ⟨hp, hps⟩ := List.forall_mem_cons.mp hps
    obtain ⟨u, hstep, hsu, hinu, hdata⟩ := step_keeps_capture hin hp hc hr
    obtain ⟨t, hrun, hut, hint, hlast⟩ := ih u hinu hps (hsu.state.trans hc) (hsu.run.trans hr)
    refine ⟨t, reaches_succ hstep hrun, hsu.trans hut, hint, ?_⟩
    calc t.rdData = lastRead u ps u.rdData := hlast
      _ = lastRead s ps u.rdData := lastRead_congr hsu.ring ps _
      _ = lastRead s ps (s.ringWord p.rdAddr) := by rw [hdata]
      _ = lastRead s (p :: ps) s.rdData := rfl

/-- Settles O48: the step that entered COMPLETE closed the gate, and from there every cycle without START and without
reset keeps the capture. -/
theorem theBufferIsFrozenInComplete : Obligations.TheBufferIsFrozenInComplete := by
  intro s ps rest hc hentry hin hps
  have hr : s.run = false := hentry.elim id fun ⟨_, hs0, hstep⟩ => run_of_step_entering_complete hs0 hstep hc
  obtain ⟨t, hrun, hcapture, hrest, hlast⟩ := cycles_keep_capture ps rest s hin hps hc hr
  exact ⟨t, hrun, hcapture.state.trans hc, hcapture.run.trans hr, hcapture.w, hcapture.ring, hrest,
    fun p hp => hlast.trans (lastRead_of_getLast? s ps _ hp)⟩

end Sys2Proof.Proofs
end

section
/-! PROOF. The decoder on a word `{id, value}` (spec/30_encoding.md R74): the row that the id selects, and the value that
START, STOP and NOP carry without using it (R76). -/

namespace Sys2Proof.Proofs

open Sys2Proof.Machine

/-- Settles O1: the fields of `{id, v}` are `id` and `v`, so the decoder's tests on the id field are tests on `id`. -/
theorem everyCommandWordDecodesByItsId : Obligations.EveryCommandWordDecodesByItsId := by
  intro id v
  rw [decodeCommand, cmdId_commandWord, cmdValue_commandWord]
  rfl

theorem decodeCommand_start (v : Word) : decodeCommand (commandWord 1 v) = .start v :=
  everyCommandWordDecodesByItsId 1 v

theorem decodeCommand_stop (v : Word) : decodeCommand (commandWord 2 v) = .stop v :=
  everyCommandWordDecodesByItsId 2 v

/-- The ids of R74's NOP row are none of the ids 1 to 7. -/
theorem nop_id_ne {id c : Word} (hid : id = 0 ∨ 8 ≤ id.toNat) (hc : 1 ≤ c.toNat ∧ c.toNat ≤ 7) : id ≠ c := by
  rintro rfl
  obtain rfl | hid := hid
  · exact absurd hc.1 (by decide)
  · omega

/-- Every id outside 1 to 7 makes a word a NOP (R74, R75). -/
theorem decodeCommand_nop {id : Word} (hid : id = 0 ∨ 8 ≤ id.toNat) (v : Word) :
    decodeCommand (commandWord id v) = .nop id v := by
  rw [everyCommandWordDecodesByItsId id v]
  simp [nop_id_ne hid]

/-- Settles O9: whatever the value is, the word decodes to the same operation but for that value, and the meanings of
START, STOP and NOP do not read it. -/
theorem ignoredValuesHaveNoInfluence : Obligations.IgnoredValuesHaveNoInfluence := by
  intro v v' id s hid
  refine ⟨?start, ?stop, ?nop⟩
  case start => rw [decodeCommand_start, decodeCommand_start, exec_start, exec_start]
  case stop => rw [decodeCommand_stop, decodeCommand_stop, exec_stop, exec_stop]
  case nop => rw [decodeCommand_nop hid, decodeCommand_nop hid, exec_nop, exec_nop]

end Sys2Proof.Proofs
end

section
/-! PROOF. The write index along a list of PUSHes (spec/40_ring_buffer.md R92). -/

namespace Sys2Proof.Proofs

open Sys2Proof.Machine Sys2Proof.Safety

@[simp] theorem pushAll_nil (s : State) : pushAll [] s = s := rfl

@[simp] theorem pushAll_cons (x : Word) (xs : List Word) (s : State) :
    pushAll (x :: xs) s = pushAll xs (s.push x) := rfl

/-- One PUSH advances the write index by one modulo 1024. -/
theorem push_w_toNat (x : Word) (s : State) : (s.push x).w.toNat = (s.w.toNat + 1) % 1024 := by
  rw [State.push_w, nextIndex_toNat]

/-- The write index after any list of PUSHes, by induction on the list. -/
theorem pushAll_w_toNat (xs : List Word) (s : State) :
    (pushAll xs s).w.toNat = (s.w.toNat + xs.length) % 1024 := by
  induction xs generalizing s with
  | nil => exact (Nat.mod_eq_of_lt s.w.isLt).symm
  | cons x xs ih =>
    calc (pushAll (x :: xs) s).w.toNat
        = ((s.push x).w.toNat + xs.length) % 1024 := by rw [pushAll_cons, ih]
      _ = ((s.w.toNat + 1) % 1024 + xs.length) % 1024 := by rw [push_w_toNat]
      _ = (s.w.toNat + (x :: xs).length) % 1024 := by rw [List.length_cons]; omega

/-- Settles O27: the masked increment is the model's next index, and a list of PUSHes takes it once for each sample. -/
theorem writeIndexAdvancesModuloTheRing : Obligations.WriteIndexAdvancesModuloTheRing :=
  ⟨nextIndex_toNat, pushAll_w_toNat⟩

end Sys2Proof.Proofs
end

section
/-! PROOF. FIRE said by single channels (spec/41_trigger_evaluator.md R101). -/

namespace Sys2Proof.Proofs

open Sys2Proof.Machine

/-- One bit of `hit` as the three conditions of R101 on that channel. -/
theorem fireHit_getLsbD_eq_true {i : Nat} (hi : i < 16) (current prev mask polarity : Word) :
    (fireHit current prev mask polarity).getLsbD i = true ↔
      mask.getLsbD i = true ∧ prev.getLsbD i ≠ current.getLsbD i ∧ current.getLsbD i = polarity.getLsbD i := by
  rw [fireHit_getLsbD current prev mask polarity i hi, Bool.and_eq_true, Bool.and_eq_true, bne_iff_ne, beq_iff_eq,
    and_assoc]

/-- Settles O23: FIRE is the OR of the bits of `hit` (R100), and each bit is the condition on its channel. -/
theorem fireIffAMaskedChannelReachedItsLevel : Obligations.FireIffAMaskedChannelReachedItsLevel := by
  intro current prev mask polarity
  calc fire current prev mask polarity = true
      ↔ ∃ i, i < 16 ∧ (fireHit current prev mask polarity).getLsbD i = true :=
        fire_eq_true current prev mask polarity
    _ ↔ ∃ i, i < 16 ∧ mask.getLsbD i = true ∧ prev.getLsbD i ≠ current.getLsbD i ∧
          current.getLsbD i = polarity.getLsbD i :=
        exists_congr fun _ => and_congr_right fun hi => fireHit_getLsbD_eq_true hi current prev mask polarity

end Sys2Proof.Proofs
end

section
/-! PROOF. One gated TICK (spec/42_sampler_tick.md R110 to R117): the Sampler's case by the condition that selects it,
and what the latch and the PUSH do in every case but COMPLETE. -/

namespace Sys2Proof.Proofs

open Sys2Proof.Machine Sys2Proof.Safety

variable {x : Word} {s : State}

/-- Behind an open gate TICK is one Sampler invocation (R110). -/
theorem exec_tick_of_gate_open (hr : s.run = true) : exec (.tick x) s = .next (s.sampler x) := by
  rw [exec_tick, if_pos hr]

/-- The Sampler evaluates FIRE on the word at the write index (R112), channel by channel (R101). -/
theorem fire_eq_true_iff_fires : fire x (s.ringWord s.w) s.mask s.polarity = true ↔ Fires x s :=
  fireIffAMaskedChannelReachedItsLevel _ _ _ _

theorem fire_eq_false_iff_not_fires : fire x (s.ringWord s.w) s.mask s.polarity = false ↔ ¬ Fires x s := by
  rw [← fire_eq_true_iff_fires, Bool.not_eq_true]

theorem sampler_of_fires (ha : s.state = .armed) (hf : Fires x s) :
    s.sampler x = ((s.latch x).trigger true).push x := by
  simpa [ha, fire_eq_true_iff_fires.mpr hf] using s.sampler_cases x

theorem sampler_of_not_fires (ha : s.state = .armed) (hf : ¬ Fires x s) : s.sampler x = (s.latch x).push x := by
  simpa [ha, fire_eq_false_iff_not_fires.mpr hf] using s.sampler_cases x

theorem sampler_of_window_met (ht : s.state = .triggered) (hc : countUp s.postCounter = s.postCount) :
    s.sampler x = (((s.latch x).setPostCounter (countUp s.postCounter)).enterComplete).push x := by
  simpa [ht, hc] using s.sampler_cases x

theorem sampler_of_window_not_met (ht : s.state = .triggered) (hc : countUp s.postCounter ≠ s.postCount) :
    s.sampler x = ((s.latch x).setPostCounter (countUp s.postCounter)).push x := by
  simpa [ht, hc] using s.sampler_cases x

theorem sampler_of_complete (hc : s.state = .complete) : s.sampler x = s.latch x := by
  simpa [hc] using s.sampler_cases x

/-- `t` is `s` with the sample `x` latched and pushed; of the rest, only the Capture State, the gate and the count may
differ (steps 1 and 4 of the Sampler, R111 and R116). -/
structure StoresSample (x : Word) (s t : State) : Prop where
  cur : t.cur = x
  w : t.w = s.w + 1
  stored : t.ringWord s.w = x
  others : SameRingExcept s.w s t
  config : SameConfig s t
  bench : SameBench s t

/-- The PUSH of step 4, on a state that has the latched sample and the ring, the write index and the settings of `s`. -/
theorem push_storesSample {u : State} (hcur : u.cur = x) (hbuf : u.buf = s.buf) (hw : u.w = s.w)
    (hconfig : SameConfig s u) (hbench : SameBench s u) : StoresSample x s (u.push x) where
  cur := hcur
  w := by rw [State.push_w, nextIndex_eq, hw]; rfl
  stored := by rw [← hw, State.push_ringWord_same]
  others a ha := by rw [State.push_ringWord_ne x u (hw ▸ ha), State.ringWord, hbuf, ← State.ringWord]
  config := hconfig
  bench := hbench

/-- Every gated tick outside COMPLETE stores its sample, the completing one too (R114, R116). -/
theorem sampler_storesSample (x : Word) (hs : s.state ≠ .complete) : StoresSample x s (s.sampler x) := by
  have hconfig : SameConfig s s := ⟨rfl, rfl, rfl, rfl, rfl⟩
  have hbench : SameBench s s := ⟨rfl, rfl, rfl⟩
  obtain ⟨-, -, h⟩ | ⟨-, -, h⟩ | ⟨-, -, h⟩ | ⟨-, -, h⟩ | ⟨hc, -⟩ := s.sampler_cases x
  case inr.inr.inr.inr => exact absurd hc hs
  all_goals exact h ▸ push_storesSample rfl rfl rfl hconfig hbench

/-- The count after a gated tick in TRIGGERED, whether it completes the capture or not (R114). -/
theorem sampler_postCounter_of_triggered (x : Word) (ht : s.state = .triggered) :
    (s.sampler x).postCounter = countUp s.postCounter := by
  by_cases hc : countUp s.postCounter = s.postCount
  · simp [sampler_of_window_met ht hc]
  · simp [sampler_of_window_not_met ht hc]

/-- Settles O20: FIRE selects the case, and in both the gate stays open and the sample is stored. -/
theorem tickInArmedTriggersExactlyOnFire : Obligations.TickInArmedTriggersExactlyOnFire := by
  intro x s hr ha
  obtain ⟨hcur, hw, hstored, hothers, hconfig, hbench⟩ := sampler_storesSample x (s := s) (by simp [ha])
  have hfire (hf : Fires x s) : (s.sampler x).postCounter = 0 ∧ (s.sampler x).state = .triggered := by
    simp [sampler_of_fires ha hf]
  have hstay (hf : ¬ Fires x s) : (s.sampler x).postCounter = s.postCounter ∧ (s.sampler x).state = .armed := by
    simp [sampler_of_not_fires ha hf, ha]
  have hrun : (s.sampler x).run = true := by
    by_cases hf : Fires x s
    · simp [sampler_of_fires ha hf, hr]
    · simp [sampler_of_not_fires ha hf, hr]
  exact ⟨_, exec_tick_of_gate_open hr, hfire, hstay, hcur, hrun, hw, hstored, hothers, hconfig, hbench⟩

/-- Settles O21: the new count is `countUp` of the old one, and its equality with the window selects the case. -/
theorem tickInTriggeredCountsAndCompletesOnEquality :
    Obligations.TickInTriggeredCountsAndCompletesOnEquality := by
  intro x s hr ht
  obtain ⟨hcur, hw, hstored, hothers, hconfig, hbench⟩ := sampler_storesSample x (s := s) (by simp [ht])
  have hcount := sampler_postCounter_of_triggered x ht
  have hmet (hc : (s.sampler x).postCounter = s.postCount) :
      (s.sampler x).state = .complete ∧ (s.sampler x).run = false := by
    simp [sampler_of_window_met ht (hcount ▸ hc)]
  have hnot (hc : (s.sampler x).postCounter ≠ s.postCount) :
      (s.sampler x).state = .triggered ∧ (s.sampler x).run = true := by
    simp [sampler_of_window_not_met ht (hcount ▸ hc), ht, hr]
  exact ⟨_, exec_tick_of_gate_open hr, by rw [hcount, countUp_toNat], hmet, hnot, hcur, hw, hstored, hothers, hconfig,
    hbench⟩

/-- Settles O22: in COMPLETE the Sampler is its latch. -/
theorem tickInCompleteOnlyLatches : Obligations.TickInCompleteOnlyLatches := by
  intro x s hr hc
  rw [exec_tick_of_gate_open hr, sampler_of_complete hc]
  rfl

/-- Settles O19: the five cases of the Sampler are the five arms of R117, the count compared as a number. -/
theorem tickIsTheSamplerSequence : Obligations.TickIsTheSamplerSequence := by
  intro x s hr
  rw [exec_tick_of_gate_open hr]
  obtain ⟨hs, hf, h⟩ | ⟨hs, hf, h⟩ | ⟨hs, hc, h⟩ | ⟨hs, hc, h⟩ | ⟨hs, h⟩ := s.sampler_cases x <;>
    simp only [h, hs]
  · rw [if_pos hf]; rfl
  · rw [if_neg (Bool.eq_false_iff.mp hf), ← hs]; rfl
  · rw [if_pos ((countUp_eq_iff _ _).mp hc), hc]; rfl
  · rw [if_neg (mt (countUp_eq_iff _ _).mpr hc), ← hs]; rfl
  · rw [← hs]; rfl

end Sys2Proof.Proofs
end

section
/-! PROOF. Gated ticks without FIRE (spec/42_sampler_tick.md R121): each is its PUSH, so a list of them is `pushAll`. -/

namespace Sys2Proof.Proofs

open Sys2Proof.Machine Sys2Proof.Safety

/-- PUSH acts alike on states that hold the same capture. -/
theorem SameCapture.push {s t : State} (h : SameCapture s t) (x : Word) : SameCapture (s.push x) (t.push x) where
  state := h.state
  run := h.run
  w := by rw [State.push_w, State.push_w, h.w]
  ring a := by rw [State.push_ringWord, State.push_ringWord, h.w, h.ring a]

theorem SameCapture.pushAll {s t : State} (h : SameCapture s t) (xs : List Word) :
    SameCapture (pushAll xs s) (pushAll xs t) := by
  induction xs generalizing s t with
  | nil => exact h
  | cons x xs ih => exact ih (h.push x)

theorem pushAll_state (xs : List Word) (s : State) : (pushAll xs s).state = s.state := by
  induction xs generalizing s with
  | nil => rfl
  | cons x xs ih => exact ih (s.push x)

theorem pushAll_run (xs : List Word) (s : State) : (pushAll xs s).run = s.run := by
  induction xs generalizing s with
  | nil => rfl
  | cons x xs ih => exact ih (s.push x)

/-- A cycle with a gated strobe and no command is its read and then one Sampler invocation (R176). -/
theorem step_of_onlyTick {s : State} {p : Pins} {rest : List Pins} (hin : s.inputs = p :: rest) (hp : OnlyTick p)
    (hr : s.run = true) :
    step s = .next ((s.advance.driveReadPort (s.ringWord p.rdAddr)).sampler p.sampleIn) := by
  obtain ⟨hrst, htick, hcmd⟩ := hp
  simp [step_of_inputs hin, hrst, htick, hcmd, hr]

/-- One cycle of R121: without FIRE the tick's PUSH is all that the capture sees of it, and the count stays. -/
theorem step_without_fire {s : State} {p : Pins} {rest : List Pins} (hin : s.inputs = p :: rest) (hp : OnlyTick p)
    (ha : s.state = .armed) (hr : s.run = true) (hf : ¬ Fires p.sampleIn s) :
    ∃ u, step s = .next u ∧ SameCapture (s.push p.sampleIn) u ∧ u.postCounter = s.postCounter ∧ u.inputs = rest := by
  have hread : SameCapture s ((s.advance.driveReadPort (s.ringWord p.rdAddr)).latch p.sampleIn) :=
    ⟨rfl, rfl, rfl, fun _ => rfl⟩
  refine ⟨_, step_of_onlyTick hin hp hr, ?_⟩
  rw [sampler_of_not_fires (s := s.advance.driveReadPort _) ha hf]
  exact ⟨hread.push p.sampleIn, rfl, by simp [hin]⟩

/-- Any list of cycles of R121, by induction on the list: FIRE, false in each state the run passes through, is false in
each state that the rest of the run passes through. -/
theorem ticks_without_fire (ps rest : List Pins) : ∀ s : State, s.state = .armed → s.run = true →
    s.inputs = ps ++ rest → (∀ p ∈ ps, OnlyTick p) →
    (∀ k u p, Reaches k s u → ps[k]? = some p → ¬ Fires p.sampleIn u) →
    ∃ t, Reaches ps.length s t ∧ SameCapture (pushAll (ps.map Pins.sampleIn) s) t ∧
      t.postCounter = s.postCounter ∧ t.inputs = rest := by
  induction ps with
  | nil => exact fun s _ _ hin _ _ => ⟨s, rfl, .refl s, rfl, hin⟩
  | cons p ps ih =>
    intro s ha hr hin hps hfires
    obtain ⟨hp, hps⟩ := List.forall_mem_cons.mp hps
    obtain ⟨u, hstep, hpush, hcount, hinu⟩ := step_without_fire hin hp ha hr (hfires 0 s p rfl rfl)
    have hfires' : ∀ k v q, Reaches k u v → ps[k]? = some q → ¬ Fires q.sampleIn v :=
      fun k v q hrun hq => hfires (k + 1) v q (reaches_succ hstep hrun) hq
    obtain ⟨t, hrun, hcapture, hcount', hint⟩ :=
      ih u (hpush.state.trans ha) (hpush.run.trans hr) hinu hps hfires'
    exact ⟨t, reaches_succ hstep hrun, (hpush.pushAll _).trans hcapture, hcount'.trans hcount, hint⟩

/-- Settles O46: the run ends in the capture that the PUSHes alone make, and PUSH leaves the state and the gate. -/
theorem withoutFireTheStateStaysArmed : Obligations.WithoutFireTheStateStaysArmed := by
  intro s ps rest ha hr hin hps hfires
  obtain ⟨t, hrun, hcapture, hcount, hrest⟩ := ticks_without_fire ps rest s ha hr hin hps hfires
  have hstate : t.state = .armed := by rw [hcapture.state, pushAll_state, ha]
  have hgate : t.run = true := by rw [hcapture.run, pushAll_run, hr]
  have hw : t.w.toNat = (s.w.toNat + ps.length) % 1024 := by
    rw [hcapture.w, pushAll_w_toNat, List.length_map]
  exact ⟨t, hrun, hstate, hgate, hw, hcount, hrest, hcapture.ring, fun i => by simp [outputs, hstate, isComplete]⟩

end Sys2Proof.Proofs
end

section
/-! PROOF. START and STOP (spec/43_capture_controller.md R133, R134), and their corner cases: a command in the step of a
gated tick acts on what that tick left (R176). -/

namespace Sys2Proof.Proofs

open Sys2Proof.Machine Sys2Proof.Safety

variable {v : Word} {s : State}

theorem exec_start_of_complete (hc : s.state = .complete) : exec (.start v) s = .next s.rearm.openGate := by
  rw [exec_start, if_pos hc]

theorem exec_start_of_not_complete (hc : s.state ≠ .complete) : exec (.start v) s = .next s.openGate := by
  rw [exec_start, if_neg hc]

/-- The clock edge and the read write nothing that the Sampler reads or writes, so it can be taken before them. -/
theorem sampler_advance_driveReadPort (x d : Word) (s : State) :
    (s.advance.driveReadPort d).sampler x = (s.sampler x).advance.driveReadPort d := by
  cases hs : s.state with
  | armed =>
    by_cases hf : Fires x s
    · rw [sampler_of_fires hs hf, sampler_of_fires (s := s.advance.driveReadPort d) hs hf]; rfl
    · rw [sampler_of_not_fires hs hf, sampler_of_not_fires (s := s.advance.driveReadPort d) hs hf]; rfl
  | triggered =>
    by_cases hc : countUp s.postCounter = s.postCount
    · rw [sampler_of_window_met hs hc, sampler_of_window_met (s := s.advance.driveReadPort d) hs hc]; rfl
    · rw [sampler_of_window_not_met hs hc, sampler_of_window_not_met (s := s.advance.driveReadPort d) hs hc]; rfl
  | complete => rw [sampler_of_complete hs, sampler_of_complete (s := s.advance.driveReadPort d) hs]; rfl

/-- In a step with a gated tick and a command, the command acts on what the Sampler left (R176). -/
theorem step_of_gated_tick_and_command {id : Word} {p : Pins} {rest : List Pins} (hin : s.inputs = p :: rest)
    (hp : Presents id v p) (htick : p.tick = true) (hr : s.run = true) :
    step s = exec (decodeCommand (commandWord id v))
      ((s.sampler p.sampleIn).advance.driveReadPort (s.ringWord p.rdAddr)) := by
  obtain ⟨hrst, hcmd, hword⟩ := hp
  simp [step_of_inputs hin, hrst, hcmd, hword, htick, hr, sampler_advance_driveReadPort]

/-- Settles O7: START has a case for COMPLETE and one for the other states; a tick that meets the window enters COMPLETE
with its PUSH done, so the START beside it is in the first case. -/
theorem startOpensTheGateAndRearmsFromComplete : Obligations.StartOpensTheGateAndRearmsFromComplete := by
  intro v s
  refine ⟨decodeCommand_start v, ?alone, fun p rest hin hp htick hr ht hmet => ?besideTheTick⟩
  case alone =>
    by_cases hc : s.state = .complete
    · simp only [exec_start_of_complete hc, if_pos hc]; rfl
    · simp only [exec_start_of_not_complete hc, if_neg hc]; rfl
  case besideTheTick =>
    have hsample : StoresSample p.sampleIn s (s.sampler p.sampleIn) := sampler_storesSample _ (by simp [ht])
    have hcomplete : (s.sampler p.sampleIn).state = .complete := by
      simp [sampler_of_window_met ht ((countUp_eq_iff _ _).mpr hmet)]
    have hstep := step_of_gated_tick_and_command hin hp htick hr
    rw [decodeCommand_start,
      exec_start_of_complete (s := (s.sampler p.sampleIn).advance.driveReadPort _) hcomplete] at hstep
    exact ⟨_, hstep, rfl, rfl, rfl, hsample.stored, hsample.w⟩

/-- Settles O8: STOP writes the Capture State and the gate alone, so what a tick beside it has stored stays. -/
theorem stopEntersCompleteAndClosesTheGate : Obligations.StopEntersCompleteAndClosesTheGate := by
  intro v s
  refine ⟨decodeCommand_stop v, exec_stop s v, fun p rest hin hp htick hr hs => ?_⟩
  have hsample : StoresSample p.sampleIn s (s.sampler p.sampleIn) := sampler_storesSample _ hs
  have hstep := step_of_gated_tick_and_command hin hp htick hr
  rw [decodeCommand_stop, exec_stop] at hstep
  exact ⟨_, hstep, rfl, rfl, hsample.stored, hsample.w⟩

end Sys2Proof.Proofs
end

section
/-! PROOF. The configuration commands and NOP (spec/44_config_commands.md R151 to R156): the operation that each id
selects, and what its check lets it write. -/

namespace Sys2Proof.Proofs

open Sys2Proof.Machine

variable {v : Word} {s : State}

theorem decodeCommand_setPolarity (v : Word) : decodeCommand (commandWord 3 v) = .setPolarity v :=
  everyCommandWordDecodesByItsId 3 v

theorem decodeCommand_setMask (v : Word) : decodeCommand (commandWord 4 v) = .setMask v :=
  everyCommandWordDecodesByItsId 4 v

theorem decodeCommand_setPeriodHi (v : Word) : decodeCommand (commandWord 5 v) = .setPeriodHi v :=
  everyCommandWordDecodesByItsId 5 v

theorem decodeCommand_setPeriodLo (v : Word) : decodeCommand (commandWord 6 v) = .setPeriodLo v :=
  everyCommandWordDecodesByItsId 6 v

theorem decodeCommand_setWindow (v : Word) : decodeCommand (commandWord 7 v) = .setWindow v :=
  everyCommandWordDecodesByItsId 7 v

/-- The zero mask fails the check of SET_MASK (R152). -/
theorem exec_setMask_zero : exec (.setMask 0) s = .next s := by
  rw [exec_setMask, if_neg fun h => (maskAccepted_iff 0).mp h rfl]

theorem exec_setMask_of_ne_zero (hv : v ≠ 0) : exec (.setMask v) s = .next (s.setMask v) := by
  rw [exec_setMask, if_pos ((maskAccepted_iff v).mpr hv)]

theorem exec_setWindow_of_in_range (hv : 1 ≤ v.toNat ∧ v.toNat ≤ 1024) :
    exec (.setWindow v) s = .next (s.setPostCount (windowCount v)) := by
  rw [exec_setWindow, if_pos ((windowAccepted_iff v).mpr hv)]

theorem exec_setWindow_of_out_of_range (hv : ¬ (1 ≤ v.toNat ∧ v.toNat ≤ 1024)) :
    exec (.setWindow v) s = .next s := by
  rw [exec_setWindow, if_neg ((windowAccepted_iff v).not.mpr hv)]

/-- Settles O6: an id outside 1 to 7 selects NOP, whose meaning is the identity. -/
theorem nopChangesNothing : Obligations.NopChangesNothing :=
  fun id value s hid => ⟨decodeCommand_nop hid value, exec_nop s id value⟩

/-- Settles O10: SET_POLARITY has no check, and its meaning is the one write. -/
theorem setPolarityReplacesPolarity : Obligations.SetPolarityReplacesPolarity :=
  fun v s => ⟨decodeCommand_setPolarity v, exec_setPolarity s v⟩

/-- Settles O11, by the two answers of the mask's check. -/
theorem setMaskReplacesANonzeroMask : Obligations.SetMaskReplacesANonzeroMask := by
  intro v s
  refine ⟨decodeCommand_setMask v, ?_⟩
  obtain rfl | hv := eq_or_ne v 0
  · rw [exec_setMask_zero, if_pos rfl]
  · rw [exec_setMask_of_ne_zero hv, if_neg hv]; rfl

/-- Settles O12: SET_PERIOD_HI has no check; it stores its half and closes the gate. -/
theorem setPeriodHiStoresAndStopsTicks : Obligations.SetPeriodHiStoresAndStopsTicks :=
  fun v s => ⟨decodeCommand_setPeriodHi v, exec_setPeriodHi s v⟩

/-- Settles O13: SET_PERIOD_LO has no check; it stores its half and closes the gate. -/
theorem setPeriodLoStoresAndStopsTicks : Obligations.SetPeriodLoStoresAndStopsTicks :=
  fun v s => ⟨decodeCommand_setPeriodLo v, exec_setPeriodLo s v⟩

/-- Settles O14, by the two answers of the window's check; a window in range fits the 11 bits of `post_count`. -/
theorem setWindowStoresAWindowInRange : Obligations.SetWindowStoresAWindowInRange := by
  intro v s
  refine ⟨decodeCommand_setWindow v, ?_⟩
  by_cases hv : 1 ≤ v.toNat ∧ v.toNat ≤ 1024
  case pos =>
    exact ⟨_, exec_setWindow_of_in_range hv, rfl, fun _ => windowCount_toNat v hv.2, fun hout => by omega⟩
  case neg =>
    exact ⟨s, exec_setWindow_of_out_of_range hv, rfl, fun hin => absurd hin hv, fun _ => rfl⟩

end Sys2Proof.Proofs
end

section
/-! PROOF. The step function is total (spec/60_exceptions.md R170): a value that fails its check and a strobe at a closed
gate leave the state as it is, and no operation has a failing answer. -/

namespace Sys2Proof.Proofs

open Sys2Proof.Machine

/-- Every operation of the opcode table has a meaning in every state, one next state per row. -/
theorem exec_answers_next (i : Instr) (s : State) : ∃ t, exec i s = .next t := by
  cases i with
  | nop id v => exact ⟨_, exec_nop s id v⟩
  | start v => exact ⟨_, exec_start s v⟩
  | stop v => exact ⟨_, exec_stop s v⟩
  | setPolarity v => exact ⟨_, exec_setPolarity s v⟩
  | setMask v => exact ⟨_, exec_setMask s v⟩
  | setPeriodHi v => exact ⟨_, exec_setPeriodHi s v⟩
  | setPeriodLo v => exact ⟨_, exec_setPeriodLo s v⟩
  | setWindow v => exact ⟨_, exec_setWindow s v⟩
  | reset => exact ⟨_, exec_reset s⟩
  | tick x => exact ⟨_, exec_tick s x⟩
  | peek a => exact ⟨_, exec_peek s a⟩

/-- A list of operations never stops early, whatever it holds. -/
theorem execAll_answers_next (is : List Instr) (s : State) : ∃ t, execAll is s = .next t := by
  induction is generalizing s with
  | nil => exact ⟨s, execAll_nil s⟩
  | cons i rest ih =>
    obtain ⟨u, hi⟩ := exec_answers_next i s
    rw [execAll_cons hi]
    exact ih u

/-- Settles O31: a step runs the list of operations that its pins select, and no such list fails. -/
theorem everyStepAnswersANextState : Obligations.EveryStepAnswersANextState :=
  ⟨exec_answers_next, fun s => execAll_answers_next (decodeCycle s.run s.pins) s.advance⟩

end Sys2Proof.Proofs
end

section
/-! PROOF. Reset as an operation and as a step (spec/70_reset_and_hazards.md R200), and the quiet block after it (R201):
the gate is closed, so a cycle without reset and without a command is its read. -/

namespace Sys2Proof.Proofs

open Sys2Proof.Machine Sys2Proof.Safety

/-- RESET_STATE writes no word of the ring (R202). -/
theorem resetRegisters_sameRing (s : State) : SameRing s s.resetRegisters := s.resetRegisters_ringWord

/-- Settles O15: the operation is RESET_STATE; a step with `rst = 1` is its read and then RESET_STATE, and the clock edge
and the read leave the ring alone. -/
theorem resetStepSetsEveryRegister : Obligations.ResetStepSetsEveryRegister := by
  intro s
  refine ⟨?operation, fun p rest hin hrst => ?step⟩
  case operation =>
    have hbench : SameBench s s.resetRegisters := ⟨rfl, rfl, rfl⟩
    exact ⟨_, exec_reset s, resetRegisters_meets_table s, resetRegisters_sameRing s, s.resetRegisters_buf, hbench⟩
  case step =>
    have hring : SameRing s (s.advance.driveReadPort (s.ringWord p.rdAddr)).resetRegisters :=
      resetRegisters_sameRing (s.advance.driveReadPort _)
    exact ⟨_, step_of_rst hin hrst, resetRegisters_meets_table _, hring, by simp [hin]⟩

theorem sameBlock_refl (s : State) : SameBlock s s := ⟨rfl, rfl, rfl, rfl, rfl, rfl, rfl, rfl, rfl, rfl, rfl⟩

theorem sameBlock_trans {s t u : State} (hst : SameBlock s t) (htu : SameBlock t u) : SameBlock s u := by
  unfold SameBlock SameConfig at *
  simp [hst, htu]

/-- The clock edge and the read write none of the eleven items (R55, R91). -/
theorem sameBlock_advance_driveReadPort (d : Word) (s : State) : SameBlock s (s.advance.driveReadPort d) :=
  sameBlock_refl s

/-- One cycle of R201: with the gate closed, no reset and no command, the step is its read. -/
theorem step_keeps_block_of_noHost {s : State} {p : Pins} {rest : List Pins} (hin : s.inputs = p :: rest)
    (hp : NoHost p) (hr : s.run = false) : ∃ t, step s = .next t ∧ SameBlock s t ∧ t.inputs = rest := by
  obtain ⟨hrst, hcmd⟩ := hp
  have hstep : step s = .next (s.advance.driveReadPort (s.ringWord p.rdAddr)) := by
    rw [step_of_gate_closed hin hrst hr, hcmd]; rfl
  exact ⟨_, hstep, sameBlock_advance_driveReadPort _ s, by simp [hin]⟩

/-- Any list of cycles of R201 from any state with the gate closed, by induction on the list: no cycle opens the gate. -/
theorem cycles_keep_block_of_noHost (ps rest : List Pins) : ∀ s : State, s.inputs = ps ++ rest →
    (∀ p ∈ ps, NoHost p) → s.run = false → ∃ t, Reaches ps.length s t ∧ SameBlock s t ∧ t.inputs = rest := by
  induction ps with
  | nil => exact fun s hin _ _ => ⟨s, rfl, sameBlock_refl s, hin⟩
  | cons p ps ih =>
    intro s hin hps hr
    obtain ⟨hp, hps⟩ := List.forall_mem_cons.mp hps
    obtain ⟨u, hstep, hsu, hinu⟩ := step_keeps_block_of_noHost hin hp hr
    have ⟨_, _, _, _, _, hrun, _⟩ := hsu
    obtain ⟨t, hreach, hut, hint⟩ := ih u hinu hps (hrun.trans hr)
    exact ⟨t, reaches_succ hstep hreach, sameBlock_trans hsu hut, hint⟩

/-- The status pins of a block that holds what a reset leaves are 0, whatever `rd_addr` is (R41, R201). -/
theorem outputs_of_sameBlock_resetRegisters {s t : State} (h : SameBlock s.resetRegisters t) (i : Index) :
    (outputs t i).runO = false ∧ (outputs t i).completeO = false ∧ (outputs t i).stateO = 0 ∧ (outputs t i).wO = 0 := by
  obtain ⟨-, hw, -, -, hstate, hrun, -⟩ := h
  simp [outputs, hw, hstate, hrun, isComplete, stateCode]

/-- Settles O17: a reset closes the gate, and behind the closed gate only a command or a reset writes any item. -/
theorem afterResetOnlyACommandCanChangeTheState : Obligations.AfterResetOnlyACommandCanChangeTheState := by
  intro s0 ps rest hps
  obtain ⟨t, hreach, hblock, hrest⟩ :=
    cycles_keep_block_of_noHost ps rest { s0.resetRegisters with inputs := ps ++ rest } rfl hps rfl
  exact ⟨t, hreach, hblock, hrest, outputs_of_sameBlock_resetRegisters hblock⟩

end Sys2Proof.Proofs
end

section
/-! PROOF. Decoding and encoding agree (spec/30_encoding.md R74, R75, R77): on the command port for the eight commands,
on the pin vector for RESET, TICK and PEEK. -/

namespace Sys2Proof.Proofs

open Sys2Proof.Machine Sys2Proof.Safety

/-- The id check of a NOP is the range of R74's NOP row. -/
theorem nopId_iff (id : Word) : nopId id = true ↔ id = 0 ∨ 8 ≤ id.toNat := by
  simp only [nopId, Bool.or_eq_true, beq_iff_eq, decide_eq_true_eq]
  exact Iff.rfl

/-- The command word of a well-formed command decodes to that command. -/
theorem decodeCommand_of_encodeCommand {i : Instr} {cw : CommandWord} (hwf : i.wf = true)
    (hi : encodeCommand i = some cw) : decodeCommand cw = i := by
  cases i with
  | nop id v => cases hi; exact decodeCommand_nop ((nopId_iff id).mp hwf) v
  | start v => cases hi; exact decodeCommand_start v
  | stop v => cases hi; exact decodeCommand_stop v
  | setPolarity v => cases hi; exact decodeCommand_setPolarity v
  | setMask v => cases hi; exact decodeCommand_setMask v
  | setPeriodHi v => cases hi; exact decodeCommand_setPeriodHi v
  | setPeriodLo v => cases hi; exact decodeCommand_setPeriodLo v
  | setWindow v => cases hi; exact decodeCommand_setWindow v
  | reset => cases hi
  | tick x => cases hi
  | peek a => cases hi

/-- The encoder presents a command on the command port alone (R77). -/
theorem encode_of_encodeCommand {i : Instr} {cw : CommandWord} (hi : encodeCommand i = some cw) :
    encode i = pinsCommand cw := by
  cases i <;> cases hi <;> rfl

/-- A cycle with a command and no strobe selects the command beside the PEEK of index 0 (R77). -/
theorem decodeCycle_pinsCommand (run : Bool) (cw : CommandWord) :
    decodeCycle run (pinsCommand cw) = [.peek 0, decodeCommand cw] := by
  simp [decodeCycle_cases, pinsCommand, pinsIdle]

/-- The cycle that presents a well-formed command selects that command beside the PEEK of index 0. -/
theorem decodeCycle_encode_of_encodeCommand {i : Instr} {cw : CommandWord} (run : Bool) (hwf : i.wf = true)
    (hi : encodeCommand i = some cw) : decodeCycle run (encode i) = [.peek 0, i] := by
  rw [encode_of_encodeCommand hi, decodeCycle_pinsCommand, decodeCommand_of_encodeCommand hwf hi]

theorem decodeCycle_encode_reset (run : Bool) : decodeCycle run (encode .reset) = [.peek 0, .reset] := by
  simp [decodeCycle_cases, encode, pinsReset, pinsIdle]

theorem decodeCycle_encode_tick (run : Bool) (x : Word) :
    decodeCycle run (encode (.tick x)) = if run then [.peek 0, .tick x] else [.peek 0] := by
  cases run <;> simp [decodeCycle_cases, encode, pinsTick, pinsIdle]

theorem decodeCycle_encode_peek (run : Bool) (a : Index) : decodeCycle run (encode (.peek a)) = [.peek a] := by
  simp [decodeCycle_cases, encode, pinsPeek, pinsIdle]

/-- Settles O3: a command comes back from the command port, the three other operations from the pin vector. -/
theorem decodeOfEncodeIsTheInstruction : Obligations.DecodeOfEncodeIsTheInstruction := by
  intro i hwf
  refine ⟨?_, fun cw => decodeCommand_of_encodeCommand hwf⟩
  cases i with
  | reset => exact decodeCycle_encode_reset true
  | tick x => exact decodeCycle_encode_tick true x
  | peek a => exact decodeCycle_encode_peek true a
  | _ => exact decodeCycle_encode_of_encodeCommand true hwf rfl

/-- The decoder answers NOP only for an id outside 1 to 7, so what it answers is well formed. -/
theorem decodeCommand_wf (cw : CommandWord) : (decodeCommand cw).wf = true := by
  unfold decodeCommand
  split_ifs
  case neg =>
    rw [Instr.wf, nopId_iff]
    bv_omega
  all_goals rfl

/-- Settles O4: no word is illegal (R75), and the decoded command keeps every bit of it. -/
theorem encodeOfDecodeIsTheWord : Obligations.EncodeOfDecodeIsTheWord :=
  fun cw => ⟨decodeCommand_wf cw, encodeCommand_decodeCommand cw⟩

/-- The decoder answers none of the operations that the pins select (R77). -/
theorem decodeCommand_ne_of_no_encoding {i : Instr} (hi : encodeCommand i = none) (cw : CommandWord) :
    decodeCommand cw ≠ i := by
  rintro rfl
  rw [encodeCommand_decodeCommand] at hi
  cases hi

/-- The decoder answers no command with another id. -/
theorem decodeCommand_ne_of_cmdId_ne {i : Instr} {cw cw' : CommandWord} (hi : encodeCommand i = some cw')
    (hid : cmdId cw ≠ cmdId cw') : decodeCommand cw ≠ i := by
  rintro rfl
  rw [encodeCommand_decodeCommand] at hi
  cases hi
  exact hid rfl

/-- Settles O2: closed words, decoded. -/
theorem wordsOfTheSpecDecode : Obligations.WordsOfTheSpecDecode := by
  unfold Obligations.WordsOfTheSpecDecode
  decide

end Sys2Proof.Proofs
end

section
/-! PROOF. What each operation may write (spec/10_state.md R20, R38), and when the Capture State and the gate change
(spec/43_capture_controller.md R132, R137). -/

namespace Sys2Proof.Proofs

open Sys2Proof.Machine Sys2Proof.Safety

/-- A Sampler invocation writes neither the settings nor the model's own fields (R117). -/
theorem sampler_frame (x : Word) (s : State) : SameConfig s (s.sampler x) ∧ SameBench s (s.sampler x) := by
  by_cases hs : s.state = .complete
  · rw [sampler_of_complete hs]
    exact ⟨⟨rfl, rfl, rfl, rfl, rfl⟩, rfl, rfl, rfl⟩
  · have hsample := sampler_storesSample x hs
    exact ⟨hsample.config, hsample.bench⟩

/-- Settles O42, operation by operation: a setting that fails its check writes nothing, and a tick, gated or not, keeps
the settings and the model's own fields. -/
theorem eachItemHasOnlyItsWriters : Obligations.EachItemHasOnlyItsWriters := by
  intro i s t h
  cases i with
  | nop id v => cases h; simp
  | start v =>
    by_cases hc : s.state = .complete
    · rw [exec_start_of_complete hc] at h; cases h; simp
    · rw [exec_start_of_not_complete hc] at h; cases h; simp
  | stop v => cases h; simp
  | setPolarity v => cases h; simp
  | setMask v => cases h; cases maskAccepted v <;> simp
  | setPeriodHi v => cases h; simp
  | setPeriodLo v => cases h; simp
  | setWindow v => cases h; cases windowAccepted v <;> simp
  | reset => cases h; simp
  | tick x =>
    cases h
    obtain ⟨⟨hmask, hpolarity, hwindow, hhi, hlo⟩, hdata, hinputs, hcycle⟩ := sampler_frame x s
    cases s.run <;> simp [hmask, hpolarity, hwindow, hhi, hlo, hdata, hinputs, hcycle]
  | peek a => cases h; simp

variable {x : Word} {s : State}

/-- A gated tick in ARMED leaves the gate alone (R113). -/
theorem sampler_run_of_armed (ha : s.state = .armed) : (s.sampler x).run = s.run := by
  by_cases hf : Fires x s
  · simp [sampler_of_fires ha hf]
  · simp [sampler_of_not_fires ha hf]

/-- The gate after a Sampler invocation: closed by the completing tick and left alone by every other (R114, R137). -/
theorem sampler_run (x : Word) (s : State) :
    (s.sampler x).run =
      if s.state = .triggered ∧ min (s.postCounter.toNat + 1) 2047 = s.postCount.toNat then false else s.run := by
  cases hs : s.state with
  | armed => simp [sampler_run_of_armed hs]
  | triggered =>
    by_cases hc : countUp s.postCounter = s.postCount
    · simp [sampler_of_window_met hs hc, (countUp_eq_iff _ _).mp hc]
    · simp [sampler_of_window_not_met hs hc, mt (countUp_eq_iff _ _).mpr hc]
  | complete => simp [sampler_of_complete hs]

/-- Settles O40: START, STOP, RESET and TICK are the writers of the Capture State, and a tick moves it in two of the
Sampler's cases. -/
theorem onlyListedEventsChangeTheCaptureState : Obligations.OnlyListedEventsChangeTheCaptureState := by
  intro i s t h
  cases i with
  | start v =>
    by_cases hc : s.state = .complete
    · rw [exec_start_of_complete hc] at h; cases h; simp [hc]
    · rw [exec_start_of_not_complete hc] at h; cases h; simp
  | stop v =>
    cases h
    by_cases hc : s.state = .complete <;> simp [hc]
  | reset => cases h; simp
  | tick x =>
    cases hr : s.run with
    | false => rw [exec_tick, hr] at h; cases h; exact .inl rfl
    | true =>
      rw [exec_tick_of_gate_open hr] at h
      cases h
      cases hs : s.state with
      | armed =>
        by_cases hf : Fires x s
        · simp [sampler_of_fires hs hf, hf, hr]
        · simp [sampler_of_not_fires hs hf, hs]
      | triggered =>
        by_cases hc : countUp s.postCounter = s.postCount
        · simp [sampler_of_window_met hs hc, hc, ((countUp_eq_iff _ _).mp hc).symm]
        · simp [sampler_of_window_not_met hs hc, hs]
      | complete => simp [sampler_of_complete hs, hs]
  | _ =>
    obtain ⟨-, -, -, -, -, -, -, hstate, -⟩ := eachItemHasOnlyItsWriters _ s t h
    exact .inl (hstate (by simp) (by simp) (by simp) (by simp))

/-- The table of R137: the gate after an operation, by the operation and the state it runs in. -/
def gateAfter (s : State) : Instr → Bool
  | .reset => false
  | .start _ => true
  | .stop _ => false
  | .tick _ =>
    if s.run = true ∧ s.state = .triggered ∧ min (s.postCounter.toNat + 1) 2047 = s.postCount.toNat then false
    else s.run
  | .setPeriodHi _ => false
  | .setPeriodLo _ => false
  | _ => s.run

/-- Every operation writes the gate as the table says. -/
theorem exec_run {i : Instr} {s t : State} (h : exec i s = .next t) : t.run = gateAfter s i := by
  cases i with
  | reset => cases h; rfl
  | start v => cases h; rfl
  | stop v => cases h; rfl
  | setPeriodHi v => cases h; rfl
  | setPeriodLo v => cases h; rfl
  | tick x =>
    cases h
    cases hr : s.run <;> simp [gateAfter, sampler_run, hr]
  | _ =>
    obtain ⟨-, -, -, -, -, -, -, -, hrun, -⟩ := eachItemHasOnlyItsWriters _ s t h
    exact hrun (by simp) (by simp) (by simp) (by simp) (by simp) (by simp)

/-- Only START opens the gate, and it leaves COMPLETE in the same write (R133). -/
theorem start_of_gate_opened {i : Instr} {s t : State} (h : exec i s = .next t) (hs : s.run = false)
    (ht : t.run = true) : (∃ v, i = .start v) ∧ t.state ≠ .complete := by
  have hrun := exec_run h
  cases i with
  | start v =>
    refine ⟨⟨v, rfl⟩, ?_⟩
    by_cases hc : s.state = .complete
    · rw [exec_start_of_complete hc] at h; cases h; simp
    · rw [exec_start_of_not_complete hc] at h; cases h; exact hc
  | _ => simp [gateAfter, hs, ht] at hrun

/-- Settles O41: the table of R137, and INV1 for the step that enters COMPLETE. -/
theorem onlyListedOperationsWriteTheGate : Obligations.OnlyListedOperationsWriteTheGate :=
  ⟨fun i _ _ h => (exec_run h).trans (by cases i <;> rfl), fun _ _ _ => start_of_gate_opened,
    fun _ _ h hs ht => run_of_step_entering_complete hs h ht⟩

end Sys2Proof.Proofs
end

section
/-! PROOF. One step as two phases, for any pins, queued or free (spec/60_exceptions.md R176): without a reset, the read
and the gated tick, then the command, where a cycle without a command is one that presents the NOP word 0. -/

namespace Sys2Proof.Proofs

open Sys2Proof.Machine Sys2Proof.Safety

variable {p : Pins} {s t : State}

/-- The state in which the command of a cycle without reset runs: the clock edge and the read are done, and the tick if
the pre-step gate let it through. -/
def afterTick (p : Pins) (s : State) : State :=
  (if p.tick && s.run then s.sampler p.sampleIn else s).advance.driveReadPort (s.ringWord p.rdAddr)

/-- The tick phase in the order of R176: the read of the pre-step ring comes before the tick. -/
theorem afterTick_eq (p : Pins) (s : State) :
    afterTick p s =
      if p.tick && s.run then (s.advance.driveReadPort (s.ringWord p.rdAddr)).sampler p.sampleIn
      else s.advance.driveReadPort (s.ringWord p.rdAddr) := by
  rw [sampler_advance_driveReadPort, afterTick]
  split <;> rfl

theorem afterTick_of_gated (htick : p.tick = true) (hr : s.run = true) :
    afterTick p s = (s.sampler p.sampleIn).advance.driveReadPort (s.ringWord p.rdAddr) := by
  simp [afterTick, htick, hr]

theorem afterTick_of_not_gated (h : p.tick = false ∨ s.run = false) :
    afterTick p s = s.advance.driveReadPort (s.ringWord p.rdAddr) := by
  obtain h | h := h <;> simp [afterTick, h]

/-- The command word a cycle presents; a cycle without a command is as one with the NOP word 0 (R156). -/
def presentedWord (p : Pins) : CommandWord := if p.cmdValid then p.cmdWord else 0#32

theorem presentedWord_of_command (h : p.cmdValid = true) : presentedWord p = p.cmdWord := if_pos h

theorem decodeCommand_presentedWord_of_no_command (h : p.cmdValid = false) :
    decodeCommand (presentedWord p) = .nop 0 0 := by
  simp only [presentedWord, h, Bool.false_eq_true, if_false]
  decide

/-- An id other than 0 in the presented word is that of a presented command. -/
theorem command_of_cmdId_presentedWord {id : Word} (hid : id ≠ 0) (h : cmdId (presentedWord p) = id) :
    p.cmdValid = true ∧ cmdId p.cmdWord = id := by
  cases hv : p.cmdValid with
  | true => exact ⟨rfl, presentedWord_of_command hv ▸ h⟩
  | false =>
    simp only [presentedWord, hv, Bool.false_eq_true, if_false] at h
    exact absurd h.symm hid

/-- The word a cycle presents is that of a command, never of RESET, TICK or PEEK (R77). -/
theorem encodeCommand_presented (p : Pins) :
    encodeCommand (decodeCommand (presentedWord p)) = some (presentedWord p) :=
  encodeCommand_decodeCommand _

theorem step_of_pins_rst (hrst : s.pins.rst = true) :
    step s = .next (s.advance.driveReadPort (s.ringWord s.pins.rdAddr)).resetRegisters := by
  simp [step_eq, hrst]

theorem step_of_pins_not_rst (hrst : s.pins.rst = false) :
    step s = exec (decodeCommand (presentedWord s.pins)) (afterTick s.pins s) := by
  rw [step_eq, afterTick_eq]
  cases hc : s.pins.cmdValid with
  | true => simp [hrst, presentedWord_of_command hc]
  | false => simp [hrst, decodeCommand_presentedWord_of_no_command hc]

/-- What a step can do: reset, or run the presented command after the tick. -/
theorem step_cases (h : step s = .next t) :
    s.pins.rst = true ∧ t = (s.advance.driveReadPort (s.ringWord s.pins.rdAddr)).resetRegisters ∨
    s.pins.rst = false ∧ exec (decodeCommand (presentedWord s.pins)) (afterTick s.pins s) = .next t := by
  cases hrst : s.pins.rst with
  | true =>
    rw [step_of_pins_rst hrst] at h
    cases h
    exact .inl ⟨rfl, rfl⟩
  | false => exact .inr ⟨rfl, step_of_pins_not_rst hrst ▸ h⟩

end Sys2Proof.Proofs
end

section
/-! PROOF. The invariants INV1 to INV3 and the ring's canonical form (spec/70_reset_and_hazards.md R216 to R218): each
item is kept by its writers, and by every other operation because that does not write it. -/

namespace Sys2Proof.Proofs

open Sys2Proof.Machine Sys2Proof.Safety

/-- INV2 alone (R217): in ARMED nothing has been counted. It is the field `uncounted` of `ControlInv`. -/
def UncountedInArmed (s : State) : Prop := s.state = .armed → s.postCounter = 0#11

theorem sampler_keeps_uncountedInArmed (x : Word) {s : State} (hs : UncountedInArmed s) :
    UncountedInArmed (s.sampler x) := by
  unfold UncountedInArmed at *
  obtain ⟨-, -, h⟩ | ⟨ha, -, h⟩ | ⟨-, -, h⟩ | ⟨ht, -, h⟩ | ⟨hc, h⟩ := s.sampler_cases x <;> rw [h]
  · simp
  · simpa using hs
  · simp
  · simp [ht]
  · simp [hc]

/-- START and RESET enter ARMED with the count cleared, and a tick in ARMED counts nothing (R113, R133, R200). -/
theorem exec_keeps_uncountedInArmed {i : Instr} {s t : State} (hs : UncountedInArmed s) (h : exec i s = .next t) :
    UncountedInArmed t := by
  cases i with
  | start v =>
    by_cases hc : s.state = .complete
    · rw [exec_start_of_complete hc] at h; cases h; exact fun _ => rfl
    · rw [exec_start_of_not_complete hc] at h; cases h; exact hs
  | stop v => cases h; exact fun ha => nomatch ha
  | reset => cases h; exact fun _ => rfl
  | tick x =>
    cases h
    cases s.run
    · exact hs
    · exact sampler_keeps_uncountedInArmed x hs
  | _ =>
    obtain ⟨-, -, -, -, -, -, hcount, hstate, -⟩ := eachItemHasOnlyItsWriters _ s t h
    unfold UncountedInArmed
    rwa [hcount (by simp) (by simp) (by simp), hstate (by simp) (by simp) (by simp) (by simp)]

/-- SET_MASK rejects zero, and the reset mask is not zero (R152, R6). -/
theorem exec_keeps_mask_ne_zero {i : Instr} {s t : State} (hs : s.mask ≠ 0#16) (h : exec i s = .next t) :
    t.mask ≠ 0#16 := by
  cases i with
  | setMask v =>
    by_cases hv : v = 0
    · subst hv; rw [exec_setMask_zero] at h; cases h; exact hs
    · rw [exec_setMask_of_ne_zero hv] at h; cases h; exact hv
  | reset => cases h; exact fun hmask => nomatch hmask
  | _ =>
    obtain ⟨-, hmask, -⟩ := eachItemHasOnlyItsWriters _ s t h
    rwa [hmask (by simp) (by simp)]

/-- INV3, second half (R218). It is the fields `windowPositive` and `windowBounded` of `ControlInv`. -/
def WindowInRange (s : State) : Prop := 1 ≤ s.postCount.toNat ∧ s.postCount.toNat ≤ 1024

theorem windowInRange_of_reset_value {s : State} (hwindow : s.postCount = 300) : WindowInRange s := by
  rw [WindowInRange, hwindow]
  decide

/-- SET_WINDOW accepts 1 to 1024 only, and the reset window is 300 (R155, R6). -/
theorem exec_keeps_windowInRange {i : Instr} {s t : State} (hs : WindowInRange s) (h : exec i s = .next t) :
    WindowInRange t := by
  cases i with
  | setWindow v =>
    by_cases hv : 1 ≤ v.toNat ∧ v.toNat ≤ 1024
    · rw [exec_setWindow_of_in_range hv] at h
      cases h
      rwa [WindowInRange, State.setPostCount_postCount, windowCount_toNat v hv.2]
    · rw [exec_setWindow_of_out_of_range hv] at h; cases h; exact hs
  | reset => cases h; exact windowInRange_of_reset_value rfl
  | _ =>
    obtain ⟨-, -, -, hwindow, -⟩ := eachItemHasOnlyItsWriters _ s t h
    rwa [WindowInRange, hwindow (by simp) (by simp)]

/-- A Sampler invocation writes the ring by its PUSH alone (R116). -/
theorem sampler_buf (x : Word) (s : State) :
    (s.sampler x).buf = s.buf ∨ (s.sampler x).buf = Memory.write s.buf s.w x := by
  obtain ⟨-, -, h⟩ | ⟨-, -, h⟩ | ⟨-, -, h⟩ | ⟨-, -, h⟩ | ⟨-, h⟩ := s.sampler_cases x <;> simp [h]

theorem exec_keeps_ring_wf {i : Instr} {s t : State} (hs : Memory.wf s.buf = true) (h : exec i s = .next t) :
    Memory.wf t.buf = true := by
  cases i with
  | tick x =>
    cases h
    cases s.run
    · exact hs
    · obtain hbuf | hbuf := sampler_buf x s
      · simpa [hbuf] using hs
      · simpa [hbuf] using Memory.write_keeps_wf s.buf s.w x hs
  | _ =>
    obtain ⟨hring, -⟩ := eachItemHasOnlyItsWriters _ s t h
    rwa [(hring (by simp)).1]

theorem exec_keeps_controlInv (i : Instr) (s t : State) (hs : ControlInv s) (h : exec i s = .next t) :
    ControlInv t := by
  obtain ⟨hfrozen, huncounted, hmask, hpositive, hbounded⟩ := hs
  obtain ⟨hpositive', hbounded'⟩ := exec_keeps_windowInRange ⟨hpositive, hbounded⟩ h
  exact ⟨exec_keeps_gateClosedInComplete i s t hfrozen h, exec_keeps_uncountedInArmed huncounted h,
    exec_keeps_mask_ne_zero hmask h, hpositive', hbounded'⟩

theorem exec_keeps_blockInv (i : Instr) (s t : State) (hs : BlockInv s) (h : exec i s = .next t) : BlockInv t :=
  ⟨exec_keeps_controlInv i s t hs.toControlInv h, exec_keeps_ring_wf hs.ringCanonical h⟩

/-- The clock edge writes none of the items that the invariants speak of. -/
theorem advance_keeps_controlInv (s : State) (hs : ControlInv s) : ControlInv s.advance :=
  ⟨hs.frozen, hs.uncounted, hs.maskNonzero, hs.windowPositive, hs.windowBounded⟩

/-- Settles O36: the clock edge and every operation keep the invariants, so every step does. -/
theorem everyStepKeepsTheInvariants : Obligations.EveryStepKeepsTheInvariants := by
  intro s t hs h
  have hadvance : ∀ s, BlockInv s → BlockInv s.advance :=
    fun s hs => ⟨advance_keeps_controlInv s hs.toControlInv, hs.ringCanonical⟩
  exact step_keeps hadvance exec_keeps_blockInv hs h

/-- What a reset leaves has INV1 to INV3, whatever the period is. -/
theorem controlInv_of_reset_values {s : State} (hstate : s.state = .armed) (hcount : s.postCounter = 0)
    (hmask : s.mask = 1) (hwindow : s.postCount = 300) : ControlInv s where
  frozen hc := by simp [hstate] at hc
  uncounted _ := hcount
  maskNonzero := by rw [hmask]; decide
  windowPositive := (windowInRange_of_reset_value hwindow).1
  windowBounded := (windowInRange_of_reset_value hwindow).2

/-- Settles O37. -/
theorem powerUpStateHasTheInvariants : Obligations.PowerUpStateHasTheInvariants :=
  ⟨controlInv_of_reset_values rfl rfl rfl rfl, Memory.powerUp_wf⟩

/-- What every step keeps, a run keeps. -/
theorem reaches_keeps {P : State → Prop} (hstep : ∀ s t, P s → step s = .next t → P t) (k : Nat) :
    ∀ s t, P s → Reaches k s t → P t := by
  induction k with
  | zero => intro s t hs h; cases h; exact hs
  | succ k ih =>
    intro s t hs h
    obtain ⟨u, hu⟩ := everyStepAnswersANextState.2 s
    exact ih u t (hstep s u hs hu) ((run_succ k hu).symm.trans h)

/-- Settles O38, by induction on the number of steps; the ring, which may be any, has no part in INV1 to INV3. -/
theorem everyReachableStateHasTheInvariants : Obligations.EveryReachableStateHasTheInvariants := by
  intro s0 t ps k h
  have hstep : ∀ s t, ControlInv s → step s = .next t → ControlInv t :=
    fun _ _ => step_keeps advance_keeps_controlInv exec_keeps_controlInv
  obtain ⟨hfrozen, huncounted, hmask, hpositive, hbounded⟩ :=
    reaches_keeps hstep k _ t (controlInv_of_reset_values rfl rfl rfl rfl) h
  exact ⟨hfrozen, huncounted, hmask, hpositive, hbounded⟩

end Sys2Proof.Proofs
end

section
/-! PROOF. The count and the window (INV5, spec/70_reset_and_hazards.md R220): in range, a count below the window either
stays below it or meets it, and then the capture is complete. -/

namespace Sys2Proof.Proofs

open Sys2Proof.Machine Sys2Proof.Safety

variable {i : Instr} {cw : CommandWord} {s t : State}

/-- A fire tick starts the count at 0, and a counting tick that does not meet the window stops below it (R113, R114). -/
theorem sampler_keeps_windowAhead (x : Word) (hrange : WindowInRange s) (hs : WindowAhead s) :
    WindowAhead (s.sampler x) := by
  obtain ⟨hpositive, hbounded⟩ := hrange
  unfold WindowAhead at *
  obtain ⟨-, -, h⟩ | ⟨ha, -, h⟩ | ⟨-, -, h⟩ | ⟨ht, hc, h⟩ | ⟨hc, h⟩ := s.sampler_cases x <;> rw [h]
  · simpa [Nat.lt_iff_add_one_le] using hpositive
  · simp [ha]
  · simp
  · have hlt := hs ht
    have hne := mt (countUp_eq_iff _ _).mpr hc
    simp only [State.push_postCounter, State.setPostCounter_postCounter, State.push_postCount,
      State.setPostCounter_postCount, State.latch_postCount, countUp_toNat]
    omega
  · simp [hc]

/-- A tick that enters COMPLETE leaves the count equal to the window (R114). -/
theorem sampler_count_met (x : Word) (hs : s.state ≠ .complete) (hc : (s.sampler x).state = .complete) :
    (s.sampler x).postCounter = (s.sampler x).postCount := by
  obtain ⟨-, -, h⟩ | ⟨ha, -, h⟩ | ⟨-, hmet, h⟩ | ⟨ht, -, h⟩ | ⟨hc, -⟩ := s.sampler_cases x
  · simp [h] at hc
  · simp [h, ha] at hc
  · simp [h, hmet]
  · simp [h, ht] at hc
  · exact absurd hc hs

/-- Without an accepted SET_WINDOW a command keeps the window (R155). -/
theorem exec_command_postCount (hi : encodeCommand i = some cw) (h : exec i s = .next t)
    (hw : cmdId cw = 7#16 → ¬ (1 ≤ (cmdValue cw).toNat ∧ (cmdValue cw).toNat ≤ 1024)) :
    t.postCount = s.postCount := by
  cases i with
  | setWindow v =>
    cases hi
    rw [cmdId_commandWord, cmdValue_commandWord] at hw
    rw [exec_setWindow_of_out_of_range (hw rfl)] at h
    cases h
    rfl
  | reset => cases hi
  | _ =>
    obtain ⟨-, -, -, hwindow, -⟩ := eachItemHasOnlyItsWriters _ s t h
    exact hwindow (by simp) (by simp)

/-- A command changes the count only by re-arming, which leaves ARMED behind (R133). -/
theorem exec_command_postCounter (hi : encodeCommand i = some cw) (h : exec i s = .next t) (ht : t.state ≠ .armed) :
    t.postCounter = s.postCounter := by
  cases i with
  | start v =>
    by_cases hc : s.state = .complete
    · rw [exec_start_of_complete hc] at h; cases h; exact absurd rfl ht
    · rw [exec_start_of_not_complete hc] at h; cases h; rfl
  | reset => cases hi
  | tick x => cases hi
  | _ =>
    obtain ⟨-, -, -, -, -, -, hcount, -⟩ := eachItemHasOnlyItsWriters _ s t h
    exact hcount (by simp) (by simp) (by simp)

/-- No command but STOP leads to a state other than ARMED from another one (R132). -/
theorem exec_command_state (hi : encodeCommand i = some cw) (hstop : ∀ v, i ≠ .stop v) (h : exec i s = .next t)
    (ht : t.state ≠ .armed) : t.state = s.state := by
  cases i with
  | start v =>
    by_cases hc : s.state = .complete
    · rw [exec_start_of_complete hc] at h; cases h; exact absurd rfl ht
    · rw [exec_start_of_not_complete hc] at h; cases h; rfl
  | stop v => exact absurd rfl (hstop v)
  | reset => cases hi
  | tick x => cases hi
  | _ =>
    obtain ⟨-, -, -, -, -, -, -, hstate, -⟩ := eachItemHasOnlyItsWriters _ s t h
    exact hstate (by simp) (by simp) (by simp) (by simp)

/-- A command that keeps the window keeps the count below it. -/
theorem exec_command_keeps_windowAhead (hi : encodeCommand i = some cw) (h : exec i s = .next t)
    (hwindow : t.postCount = s.postCount) (hs : WindowAhead s) : WindowAhead t := by
  intro ht
  have hstop : ∀ v, i ≠ .stop v := by
    rintro v rfl
    cases h
    cases ht
  have hstate := exec_command_state hi hstop h (by simp [ht])
  rw [exec_command_postCounter hi h (by simp [ht]), hwindow]
  exact hs (hstate.symm.trans ht)

theorem afterTick_keeps_windowAhead (p : Pins) (hrange : WindowInRange s) (hs : WindowAhead s) :
    WindowAhead (afterTick p s) := by
  unfold afterTick
  split
  · exact sampler_keeps_windowAhead p.sampleIn hrange hs
  · exact hs

/-- Where the tick phase of a step has entered COMPLETE, the tick did, and the count meets the window. -/
theorem afterTick_count_met (p : Pins) (hs : s.state ≠ .complete) (hc : (afterTick p s).state = .complete) :
    (afterTick p s).postCounter = (afterTick p s).postCount := by
  unfold afterTick at *
  split at hc
  · rw [if_pos ‹_›]
    exact sampler_count_met p.sampleIn hs hc
  · exact absurd hc hs

/-- NoWindowChange, said of the word the cycle presents. -/
theorem presentedWord_of_noWindowChange {p : Pins} (hrst : p.rst = false) (hp : NoWindowChange p)
    (hid : cmdId (presentedWord p) = 7#16) :
    ¬ (1 ≤ (cmdValue (presentedWord p)).toNat ∧ (cmdValue (presentedWord p)).toNat ≤ 1024) := by
  obtain ⟨hvalid, hid⟩ := command_of_cmdId_presentedWord (by decide) hid
  rw [presentedWord_of_command hvalid]
  exact hp hrst hvalid hid

/-- A step that ends in COMPLETE with its tick phase there too has the count that the tick left (R134, R220). -/
theorem count_met_after_command (p : Pins) (hs : s.state ≠ .complete) (hc : (afterTick p s).state = .complete)
    (hi : encodeCommand i = some cw) (h : exec i (afterTick p s) = .next t)
    (hwindow : t.postCount = (afterTick p s).postCount) (ht : t.state = .complete) : t.postCounter = t.postCount :=
  calc t.postCounter = (afterTick p s).postCounter := exec_command_postCounter hi h (by simp [ht])
    _ = (afterTick p s).postCount := afterTick_count_met p hs hc
    _ = t.postCount := hwindow.symm

/-- Settles O39: the tick phase and the command each keep the count below the window, and only the tick phase or a STOP
enters COMPLETE. -/
theorem countStaysBelowAnUnchangedWindow : Obligations.CountStaysBelowAnUnchangedWindow := by
  intro s t p rest hin hinv hahead hp h
  have hrange : WindowInRange s := ⟨hinv.windowPositive, hinv.windowBounded⟩
  obtain ⟨hrst, rfl⟩ | ⟨hrst, hexec⟩ := step_cases h <;> rw [State.pins_of_inputs hin] at hrst
  case inl =>
    exact ⟨fun ht => (nomatch ht), fun _ ht => (nomatch ht), fun u hnot => absurd hrst (by simp [hnot])⟩
  case inr =>
    rw [State.pins_of_inputs hin] at hexec
    have hi := encodeCommand_presented p
    have hwindow := exec_command_postCount hi hexec (presentedWord_of_noWindowChange hrst hp)
    refine ⟨?ahead, fun hs ht hnostop => ?entered, fun u _ htick hr hu hs hc => ?tick⟩
    case ahead =>
      exact exec_command_keeps_windowAhead hi hexec hwindow (afterTick_keeps_windowAhead p hrange hahead)
    case entered =>
      have hstop : ∀ v, decodeCommand (presentedWord p) ≠ .stop v := by
        refine fun v => decodeCommand_ne_of_cmdId_ne rfl fun hid => ?_
        obtain ⟨hvalid, hid⟩ := command_of_cmdId_presentedWord (by simp) hid
        exact hnostop hvalid (hid.trans (cmdId_commandWord 2 v))
      have hc := exec_command_state hi hstop hexec (by simp [ht])
      exact count_met_after_command p hs (hc.symm.trans ht) hi hexec hwindow ht
    case tick =>
      rw [exec_tick_of_gate_open hr] at hu
      cases hu
      have hafter : (afterTick p s).state = .complete := by rw [afterTick_of_gated htick hr]; exact hc
      exact ⟨sampler_count_met p.sampleIn hs hc, count_met_after_command p hs hafter hi hexec hwindow⟩

end Sys2Proof.Proofs
end

section
/-! PROOF. Where a list of PUSHes leaves its samples (spec/40_ring_buffer.md R93, spec/20_memory.md R64): the sample `j`
at the `j`-th index from the write index on, unless 1024 or more came after it; every other word as before. -/

namespace Sys2Proof.Proofs

open Sys2Proof.Machine Sys2Proof.Safety

/-- Two indices counted from the same one are equal exactly when the counts are, modulo 1024. -/
theorem index_add_inj (w : Index) (i j : Nat) :
    w + BitVec.ofNat 10 i = w + BitVec.ofNat 10 j ↔ i % 1024 = j % 1024 := by
  rw [BitVec.add_right_inj, ← BitVec.toNat_inj, BitVec.toNat_ofNat, BitVec.toNat_ofNat]

theorem index_succ_add (w : Index) (j : Nat) : w + 1#10 + BitVec.ofNat 10 j = w + BitVec.ofNat 10 (j + 1) := by
  rw [Nat.add_comm j 1, BitVec.ofNat_add, BitVec.add_assoc]

/-- Counting back from the `n`-th index is counting on from the first, modulo 1024. -/
theorem index_add_sub (w : Index) (n k : Nat) (hk : k < 1024) :
    w + BitVec.ofNat 10 n - 1 - BitVec.ofNat 10 k = w + BitVec.ofNat 10 (n + 1023 - k) := by
  bv_omega

/-- The write index after a list of PUSHes, as an index (R92). -/
theorem pushAll_w (xs : List Word) (s : State) : (pushAll xs s).w = s.w + BitVec.ofNat 10 xs.length := by
  apply BitVec.eq_of_toNat_eq
  rw [pushAll_w_toNat, BitVec.toNat_add, BitVec.toNat_ofNat]
  omega

/-- An index that no PUSH of the list writes keeps its word, by induction on the list. -/
theorem pushAll_ringWord_of_not_written (xs : List Word) {a : Index} : ∀ {s : State},
    (∀ j, j < xs.length → a ≠ s.w + BitVec.ofNat 10 j) → (pushAll xs s).ringWord a = s.ringWord a := by
  induction xs with
  | nil => exact fun _ => rfl
  | cons x xs ih =>
    intro s ha
    have hfirst : a ≠ s.w := by simpa using ha 0 (by simp)
    have hrest : ∀ j, j < xs.length → a ≠ (s.push x).w + BitVec.ofNat 10 j := by
      intro j hj
      rw [State.push_w, nextIndex_eq, index_succ_add]
      exact ha (j + 1) (by simpa using hj)
    rw [pushAll_cons, ih hrest, State.push_ringWord_ne x s hfirst]

/-- A sample that fewer than 1024 others follow stays in the ring, by induction on its place in the list. -/
theorem pushAll_ringWord_of_written (xs : List Word) : ∀ {s : State} {j : Nat} {x : Word}, xs[j]? = some x →
    xs.length ≤ j + 1024 → (pushAll xs s).ringWord (s.w + BitVec.ofNat 10 j) = x := by
  induction xs with
  | nil => exact fun hx => nomatch hx
  | cons y xs ih =>
    intro s j x hx hlen
    cases j with
    | zero =>
      cases hx
      have hrest : ∀ i, i < xs.length → s.w ≠ (s.push y).w + BitVec.ofNat 10 i := by
        intro i hi
        rw [List.length_cons] at hlen
        rw [State.push_w, nextIndex_eq, index_succ_add]
        bv_omega
      rw [pushAll_cons, BitVec.add_zero, pushAll_ringWord_of_not_written xs hrest, State.push_ringWord_same]
    | succ j =>
      rw [List.length_cons] at hlen
      rw [pushAll_cons, ← index_succ_add, ← ih (s := s.push y) (j := j) hx (by omega), State.push_w, nextIndex_eq]

/-- Settles O28: the index `k` before the newest is that of the sample `k` before the last, if there is one; else no PUSH
has written it. -/
theorem ringHoldsTheNewestPushes : Obligations.RingHoldsTheNewestPushes := by
  intro xs s k hk
  rw [pushAll_w, index_add_sub s.w xs.length k hk]
  refine ⟨fun x hx => ?newest, fun hlen => ?before⟩
  case newest =>
    have hlt : k < xs.length := by simpa using (List.getElem?_eq_some_iff.mp hx).1
    rw [List.getElem?_reverse hlt] at hx
    have hindex := (index_add_inj s.w (xs.length + 1023 - k) (xs.length - 1 - k)).mpr (by omega)
    rw [hindex, pushAll_ringWord_of_written xs hx (by omega)]
  case before =>
    refine pushAll_ringWord_of_not_written xs fun j hj => ?_
    rw [ne_eq, index_add_inj]
    omega

/-- Settles O26: the read port is driven before anything is written, and a command drives no read and writes no word. -/
theorem peekReadsThePreStepContents : Obligations.PeekReadsThePreStepContents := by
  refine ⟨fun i s => exec_peek s i, Memory.read_powerUp, fun s p rest hin => ?_⟩
  obtain ⟨t, h⟩ := everyStepAnswersANextState.2 s
  refine ⟨t, h, ?_⟩
  obtain ⟨hrst, rfl⟩ | ⟨hrst, hexec⟩ := step_cases h
  case inl =>
    rw [State.pins_of_inputs hin] at hrst ⊢
    exact ⟨rfl, fun hnot => absurd hrst (by simp [hnot])⟩
  case inr =>
    rw [State.pins_of_inputs hin] at hexec
    obtain ⟨hring, -, -, -, -, -, -, -, -, hdata, -⟩ := eachItemHasOnlyItsWriters _ _ t hexec
    refine ⟨hdata fun a => decodeCommand_ne_of_no_encoding rfl _, fun _ htick hr hs => ?_⟩
    have hbuf : t.buf = (afterTick p s).buf := (hring fun x => decodeCommand_ne_of_no_encoding rfl _).1
    rw [State.ringWord, hbuf, afterTick_of_gated htick hr]
    exact (sampler_storesSample p.sampleIn hs).stored

end Sys2Proof.Proofs
end

section
/-! PROOF. FIRE under a union of masks (spec/41_trigger_evaluator.md R103), and the output pins (spec/10_state.md R41). -/

namespace Sys2Proof.Proofs

open Sys2Proof.Machine

/-- Settles O24, channel by channel: a channel takes part under the union when it does under one of the masks. -/
theorem fireIsTheOrAcrossMasks : Obligations.FireIsTheOrAcrossMasks := by
  intro current prev m n polarity
  rw [Bool.eq_iff_iff, Bool.or_eq_true]
  simp only [fireIffAMaskedChannelReachedItsLevel _ _ _ _, BitVec.getLsbD_or, Bool.or_eq_true, or_and_right,
    and_or_left, exists_or]

/-- Settles O35: the halves of `period_o` are the two registers, and the three codes of R78 differ. -/
theorem outputsAreFunctionsOfTheState : Obligations.OutputsAreFunctionsOfTheState := by
  refine ⟨fun s i => ⟨rfl, rfl, rfl, ?hi, ?lo, ?codes⟩, rfl, fun c => by cases c <;> rfl⟩
  case hi => exact cmdId_commandWord s.periodHi s.periodLo
  case lo => exact cmdValue_commandWord s.periodHi s.periodLo
  case codes => cases hs : s.state <;> simp [outputs, hs, isComplete, stateCode]

end Sys2Proof.Proofs
end

section
/-! PROOF. Single steps with given pins (spec/30_encoding.md R77, spec/60_exceptions.md R176): their order, the cycles
that do nothing, and the commands beside a tick (spec/20_memory.md R62, spec/42_sampler_tick.md R120). -/

namespace Sys2Proof.Proofs

open Sys2Proof.Machine Sys2Proof.Safety

variable {s : State} {p : Pins} {rest : List Pins}

/-- The clock edge of a cycle whose pins are queued. -/
theorem advance_of_inputs (hin : s.inputs = p :: rest) :
    s.advance = { s with inputs := rest, cycle := s.cycle + 1 } := by
  simp [State.advance, hin]

/-- Other pins in place of this cycle's. -/
theorem present_of_inputs (hin : s.inputs = p :: rest) (q : Pins) : { s with inputs := q :: rest } = s.present q := by
  simp [State.present, hin]

/-- The tick phase reads the pins it is given and never the queue. -/
theorem afterTick_present (p q : Pins) (s : State) : afterTick p (s.present q) = afterTick p s := by
  rw [afterTick_eq, afterTick_eq]
  rfl

theorem step_present_of_rst {q : Pins} (hrst : q.rst = true) :
    step (s.present q) = .next (s.advance.driveReadPort (s.ringWord q.rdAddr)).resetRegisters :=
  step_of_pins_rst (s := s.present q) hrst

theorem step_present_of_not_rst {q : Pins} (hrst : q.rst = false) :
    step (s.present q) = exec (decodeCommand (presentedWord q)) (afterTick q s) :=
  afterTick_present q q s ▸ step_of_pins_not_rst (s := s.present q) hrst

theorem step_of_inputs_not_rst (hin : s.inputs = p :: rest) (hrst : p.rst = false) :
    step s = exec (decodeCommand (presentedWord p)) (afterTick p s) := by
  have hpins := State.pins_of_inputs hin
  rw [step_of_pins_not_rst (hpins ▸ hrst), hpins]

theorem step_of_presents {id v : Word} (hin : s.inputs = p :: rest) (hp : Presents id v p) :
    step s = exec (decodeCommand (commandWord id v)) (afterTick p s) := by
  obtain ⟨hrst, hvalid, hword⟩ := hp
  rw [step_of_inputs_not_rst hin hrst, presentedWord_of_command hvalid, hword]

/-- A cycle without reset and without command is its tick phase. -/
theorem step_of_noHost (hin : s.inputs = p :: rest) (hp : NoHost p) : step s = .next (afterTick p s) := by
  obtain ⟨hrst, hcmd⟩ := hp
  rw [step_of_inputs_not_rst hin hrst, decodeCommand_presentedWord_of_no_command hcmd, exec_nop]

/-- Settles O30: the tick phase is the read and, behind an open gate, the TICK; an absent command is a NOP. -/
theorem stepOrderIsResetThenTickThenCommand : Obligations.StepOrderIsResetThenTickThenCommand := by
  intro s p rest hin
  refine ⟨s.advance.driveReadPort (s.ringWord p.rdAddr), ?read, fun hrst => step_of_rst hin hrst,
    fun hrst => ⟨afterTick p s, fun ⟨htick, hr⟩ => ?tick, afterTick_of_not_gated, fun hvalid => ?command,
      fun hnone => step_of_noHost hin ⟨hrst, hnone⟩⟩⟩
  case read => rw [← advance_of_inputs hin, exec_peek, State.advance_ringWord]
  case tick => rw [exec_tick_of_gate_open (s := s.advance.driveReadPort _) hr, sampler_advance_driveReadPort,
    afterTick_of_gated htick hr]
  case command => rw [step_of_inputs_not_rst hin hrst, presentedWord_of_command hvalid]

/-- Behind a closed gate TICK is a discarded strobe (R120). -/
theorem exec_tick_of_gate_closed {x : Word} (hr : s.run = false) : exec (.tick x) s = .next s := by
  rw [exec_tick, hr]
  rfl

theorem execAll_singleton (i : Instr) (s : State) : execAll [i] s = exec i s := by
  obtain ⟨t, h⟩ := exec_answers_next i s
  rw [execAll_cons h, execAll_nil, h]

/-- A cycle that selects the read of `a` and the operation `i` runs `i` on what the read left. -/
theorem step_of_decodeCycle {a : Index} {i : Instr} (h : decodeCycle s.run s.pins = [.peek a, i]) :
    step s = exec i (s.advance.driveReadPort (s.ringWord a)) := by
  rw [step, runCycle, h, execAll_cons (exec_peek _ _), execAll_singleton, State.advance_ringWord]

/-- A cycle that selects a read only. -/
theorem step_of_decodeCycle_peek {a : Index} (h : decodeCycle s.run s.pins = [.peek a]) :
    step s = .next (s.advance.driveReadPort (s.ringWord a)) := by
  rw [step, runCycle, h, execAll_singleton, exec_peek, State.advance_ringWord]

/-- The step whose pins the encoder wrote: a command and RESET stand beside the PEEK of index 0, a strobe at a closed
gate and a PEEK repeated on its own result write nothing. -/
theorem step_of_pins_encode {i : Instr} (hwf : i.wf = true) (hpins : s.pins = encode i) :
    step s = exec i (s.advance.driveReadPort (s.ringWord (encode i).rdAddr)) := by
  have hcycle := congrArg (decodeCycle s.run) hpins
  cases i with
  | reset => exact step_of_decodeCycle (hcycle.trans (decodeCycle_encode_reset s.run))
  | tick x =>
    rw [decodeCycle_encode_tick] at hcycle
    cases hr : s.run with
    | true =>
      exact step_of_decodeCycle (hcycle.trans (if_pos hr))
    | false =>
      have hnot : ¬ s.run = true := by simp [hr]
      rw [step_of_decodeCycle_peek (hcycle.trans (if_neg hnot))]
      exact (exec_tick_of_gate_closed (s := s.advance.driveReadPort _) hr).symm
  | peek a => exact step_of_decodeCycle_peek (hcycle.trans (decodeCycle_encode_peek s.run a))
  | _ => exact step_of_decodeCycle (hcycle.trans (decodeCycle_encode_of_encodeCommand s.run hwf rfl))

/-- Settles O29. -/
theorem stepRunsThePresentedInstruction : Obligations.StepRunsThePresentedInstruction := by
  intro i s rest hwf hin
  rw [← advance_of_inputs hin]
  exact ⟨_, exec_peek _ _, step_of_pins_encode hwf (State.pins_of_inputs hin)⟩

/-- Settles O18: with the gate closed the tick phase is the read, with the strobe and without it. -/
theorem strobeWithTheGateClosedIsDropped : Obligations.StrobeWithTheGateClosedIsDropped := by
  intro x s hr
  refine ⟨exec_tick_of_gate_closed hr, fun p rest hin => ?_⟩
  rw [present_of_inputs hin]
  obtain hrst | hrst := Bool.eq_false_or_eq_true p.rst
  · exact ⟨_, step_of_rst hin hrst, step_present_of_rst hrst⟩
  · obtain ⟨t, h⟩ := everyStepAnswersANextState.2 s
    refine ⟨t, h, ?_⟩
    rw [step_present_of_not_rst (q := { p with tick := false }) hrst, ← h, step_of_inputs_not_rst hin hrst,
      afterTick_of_not_gated (.inr hr), afterTick_of_not_gated (.inr hr)]
    rfl

/-- Settles O32: without a gated tick the tick phase is the read. -/
theorem idleStepLeavesTheBlockUnchanged : Obligations.IdleStepLeavesTheBlockUnchanged := by
  intro s p rest hin hrst hgate hcmd
  rw [step_of_noHost hin ⟨hrst, hcmd⟩, afterTick_of_not_gated hgate]
  exact ⟨_, rfl, sameBlock_advance_driveReadPort _ s, by simp [hin]⟩

/-- Settles O33: the gate that a tick meets is the pre-step one, so START runs on what the read left. -/
theorem startDoesNotAdmitTheTickOfItsStep : Obligations.StartDoesNotAdmitTheTickOfItsStep := by
  intro v s p rest hin hp hr
  have hstep := step_of_presents hin hp
  rw [decodeCommand_start, afterTick_of_not_gated (.inr hr)] at hstep
  by_cases hc : s.state = .complete
  · rw [exec_start_of_complete (s := s.advance.driveReadPort _) hc] at hstep
    exact ⟨_, hstep, rfl, rfl, rfl, fun _ => rfl, fun hnot => absurd hc hnot⟩
  · rw [exec_start_of_not_complete (s := s.advance.driveReadPort _) hc] at hstep
    exact ⟨_, hstep, rfl, rfl, rfl, fun _ => rfl, fun _ => ⟨rfl, rfl⟩⟩

/-- SET_POLARITY, SET_MASK and SET_WINDOW write nothing that a tick writes (R38). -/
theorem exec_setting_frame {cw : CommandWord} {t : State} (hid : cmdId cw = 3 ∨ cmdId cw = 4 ∨ cmdId cw = 7)
    (h : exec (decodeCommand cw) s = .next t) :
    t.buf = s.buf ∧ t.w = s.w ∧ t.cur = s.cur ∧ t.postCounter = s.postCounter ∧ t.state = s.state ∧ t.run = s.run := by
  have hne {i : Instr} {id v : Word} (hi : encodeCommand i = some (commandWord id v))
      (hother : id ≠ 3 ∧ id ≠ 4 ∧ id ≠ 7) : decodeCommand cw ≠ i := by
    refine decodeCommand_ne_of_cmdId_ne hi fun heq => ?_
    rw [heq, cmdId_commandWord] at hid
    exact hid.elim hother.1 fun hid => hid.elim hother.2.1 hother.2.2
  have hstart : ∀ v, decodeCommand cw ≠ .start v := fun v => hne rfl (by decide)
  have hstop : ∀ v, decodeCommand cw ≠ .stop v := fun v => hne rfl (by decide)
  have hhi : ∀ v, decodeCommand cw ≠ .setPeriodHi v := fun v => hne rfl (by decide)
  have hlo : ∀ v, decodeCommand cw ≠ .setPeriodLo v := fun v => hne rfl (by decide)
  have htick : ∀ x, decodeCommand cw ≠ .tick x := fun x => decodeCommand_ne_of_no_encoding rfl cw
  have hreset : decodeCommand cw ≠ .reset := decodeCommand_ne_of_no_encoding rfl cw
  obtain ⟨hring, -, -, -, -, -, hcount, hstate, hrun, -⟩ := eachItemHasOnlyItsWriters _ s t h
  obtain ⟨hbuf, hlatch⟩ := hring htick
  obtain ⟨hw, hcur⟩ := hlatch hreset
  exact ⟨hbuf, hw, hcur, hcount htick hstart hreset, hstate htick hstart hstop hreset,
    hrun htick hstart hstop hhi hlo hreset⟩

/-- Settles O34: the tick phase is over when the setting is written, and it is the same without the command. -/
theorem settingsDoNotReachTheTickOfTheirStep : Obligations.SettingsDoNotReachTheTickOfTheirStep := by
  intro id v s p rest hid hin hp
  have ⟨hrst, _, _⟩ := hp
  have hplain : step (s.present { p with cmdValid := false }) = .next (afterTick p s) := by
    rw [step_present_of_not_rst (q := { p with cmdValid := false }) hrst,
      decodeCommand_presentedWord_of_no_command rfl]
    rfl
  have hexec := step_of_presents hin hp
  obtain ⟨t, h⟩ := everyStepAnswersANextState.2 s
  rw [h] at hexec
  obtain ⟨hbuf, hw, hcur, hcount, hstate, hrun⟩ :=
    exec_setting_frame (by rwa [cmdId_commandWord]) hexec.symm
  rw [present_of_inputs hin]
  refine ⟨t, _, h, hplain, hbuf, hw, hcur, hcount, hstate, hrun, ?polarity, ?mask, ?window⟩
  case polarity =>
    rintro rfl
    rw [decodeCommand_setPolarity] at hexec
    cases hexec
    rfl
  case mask =>
    rintro rfl hv
    rw [decodeCommand_setMask, exec_setMask_of_ne_zero hv] at hexec
    cases hexec
    rfl
  case window =>
    rintro rfl hpositive hbounded
    rw [decodeCommand_setWindow, exec_setWindow_of_in_range ⟨hpositive, hbounded⟩] at hexec
    cases hexec
    exact windowCount_toNat v hbounded

/-- Settles O5: the two commands of the expansion run one after the other, and two halves make the period (R31). -/
theorem setPeriodExpandsToBothHalves : Obligations.SetPeriodExpandsToBothHalves := by
  intro p s
  refine ⟨_, ?_, rfl, fun i => append_halves p⟩
  rw [expandPseudo, execAll_cons (exec_setPeriodHi _ _), execAll_cons (exec_setPeriodLo _ _), execAll_nil]
  rfl

end Sys2Proof.Proofs
end

section
/-! PROOF. Items that nothing reads: polarity bits outside the mask (spec/10_state.md R28), and the latch with the period
registers (R23, R30). Two states that differ there run alike. -/

namespace Sys2Proof.Proofs

open Sys2Proof.Machine Sys2Proof.Safety

/-- FIRE reads `polarity` under the mask only: `hit` is `changed AND mask AND NOT current XOR polarity` (R100). -/
theorem fire_congr_polarity {m q q' : Word} (hq : m &&& q = m &&& q') (current prev : Word) :
    fire current prev m q = fire current prev m q' := by
  have hbit (i : Nat) (hm : m.getLsbD i = true) : q.getLsbD i = q'.getLsbD i := by
    simpa [hm] using congrArg (fun b => b.getLsbD i) hq
  rw [Bool.eq_iff_iff, fireIffAMaskedChannelReachedItsLevel, fireIffAMaskedChannelReachedItsLevel]
  refine exists_congr fun i => and_congr_right fun _ => and_congr_right fun hm => ?_
  rw [hbit i hm]

variable {s t : State} {q : Word}

/-- A tick runs alike with polarities that agree under the mask. -/
theorem sampler_setPolarity (x : Word) (hq : s.mask &&& s.polarity = s.mask &&& q) :
    (s.setPolarity q).sampler x = (s.sampler x).setPolarity q := by
  have hfires : Fires x (s.setPolarity q) ↔ Fires x s := by
    rw [← fire_eq_true_iff_fires, ← fire_eq_true_iff_fires, fire_congr_polarity hq]
    rfl
  cases hs : s.state with
  | armed =>
    by_cases hf : Fires x s
    · rw [sampler_of_fires hs hf, sampler_of_fires (s := s.setPolarity q) hs (hfires.mpr hf)]; rfl
    · rw [sampler_of_not_fires hs hf, sampler_of_not_fires (s := s.setPolarity q) hs (mt hfires.mp hf)]; rfl
  | triggered =>
    by_cases hc : countUp s.postCounter = s.postCount
    · rw [sampler_of_window_met hs hc, sampler_of_window_met (s := s.setPolarity q) hs hc]; rfl
    · rw [sampler_of_window_not_met hs hc, sampler_of_window_not_met (s := s.setPolarity q) hs hc]; rfl
  | complete => rw [sampler_of_complete hs, sampler_of_complete (s := s.setPolarity q) hs]; rfl

theorem afterTick_setPolarity (p : Pins) (hq : s.mask &&& s.polarity = s.mask &&& q) :
    afterTick p (s.setPolarity q) = (afterTick p s).setPolarity q := by
  rw [afterTick, afterTick, sampler_setPolarity _ hq, State.setPolarity_run]
  split <;> rfl

/-- Every command but SET_POLARITY runs alike whatever `polarity` is, and keeps it. -/
theorem exec_command_setPolarity {i : Instr} {cw : CommandWord} (hi : encodeCommand i = some cw)
    (hpol : cmdId cw ≠ 3) (h : exec i s = .next t) : exec i (s.setPolarity q) = .next (t.setPolarity q) := by
  cases i with
  | start v =>
    by_cases hc : s.state = .complete
    · rw [exec_start_of_complete hc] at h
      rw [exec_start_of_complete (s := s.setPolarity q) hc]
      cases h
      rfl
    · rw [exec_start_of_not_complete hc] at h
      rw [exec_start_of_not_complete (s := s.setPolarity q) hc]
      cases h
      rfl
  | setPolarity v =>
    cases hi
    exact absurd (cmdId_commandWord 3 v) hpol
  | setMask v => cases h; rw [exec_setMask]; cases maskAccepted v <;> rfl
  | setWindow v => cases h; rw [exec_setWindow]; cases windowAccepted v <;> rfl
  | reset => cases hi
  | tick x => cases hi
  | peek a => cases hi
  | _ => cases h; rfl

/-- No command but SET_POLARITY writes `polarity` (R28). -/
theorem exec_command_polarity {cw : CommandWord} (hpol : cmdId cw ≠ 3) (h : exec (decodeCommand cw) s = .next t) :
    t.polarity = s.polarity := by
  obtain ⟨-, -, hpolarity, -⟩ := eachItemHasOnlyItsWriters _ s t h
  exact hpolarity (fun v => decodeCommand_ne_of_cmdId_ne rfl (by rwa [cmdId_commandWord]))
    (decodeCommand_ne_of_no_encoding rfl cw)

/-- Without an accepted SET_MASK a command keeps the mask (R152). -/
theorem exec_command_mask {i : Instr} {cw : CommandWord} (hi : encodeCommand i = some cw) (h : exec i s = .next t)
    (hm : cmdId cw = 4#16 → cmdValue cw = 0#16) : t.mask = s.mask := by
  cases i with
  | setMask v =>
    cases hi
    rw [cmdId_commandWord, cmdValue_commandWord] at hm
    obtain rfl := hm rfl
    cases exec_setMask_zero.symm.trans h
    rfl
  | reset => cases hi
  | _ =>
    obtain ⟨-, hmask, -⟩ := eachItemHasOnlyItsWriters _ s t h
    exact hmask (by simp) (by simp)

theorem afterTick_sameConfig (p : Pins) (s : State) : SameConfig s (afterTick p s) := by
  unfold afterTick
  split
  · exact (sampler_frame p.sampleIn s).1
  · exact ⟨rfl, rfl, rfl, rfl, rfl⟩

/-- A command word with id 3 is a SET_POLARITY. -/
theorem decodeCommand_of_cmdId_three {cw : CommandWord} (h : cmdId cw = 3) :
    decodeCommand cw = .setPolarity (cmdValue cw) := by
  rw [← decodeCommand_setPolarity, ← h, commandWord_fields]

/-- Without reset, a cycle overwrites `polarity` exactly when the word it presents has the id of SET_POLARITY. -/
theorem writesPolarity_iff {p : Pins} (hrst : p.rst = false) : WritesPolarity p ↔ cmdId (presentedWord p) = 3 := by
  refine ⟨fun h => ?_, fun h => .inr (command_of_cmdId_presentedWord (by decide) h)⟩
  obtain h | ⟨hvalid, hid⟩ := h
  · simp [hrst] at h
  · rw [presentedWord_of_command hvalid]
    exact hid

/-- NoMaskChange, said of the word the cycle presents. -/
theorem presentedWord_of_noMaskChange {p : Pins} (hrst : p.rst = false) (hp : NoMaskChange p)
    (hid : cmdId (presentedWord p) = 4#16) : cmdValue (presentedWord p) = 0#16 := by
  obtain ⟨hvalid, hid⟩ := command_of_cmdId_presentedWord (by decide) hid
  rw [presentedWord_of_command hvalid]
  exact hp hrst hvalid hid

/-- Settles O25: the tick phase runs alike, a reset and a SET_POLARITY lead to one state, and every other command runs
alike. -/
theorem unmaskedPolarityHasNoEffect : Obligations.UnmaskedPolarityHasNoEffect := by
  intro s q hq
  refine ⟨fun _ => rfl, ?_⟩
  change ∃ t u, _ ∧ step (s.setPolarity q) = .next u ∧ _
  cases hrst : s.pins.rst with
  | true =>
    exact ⟨_, _, step_of_pins_rst hrst, step_of_pins_rst (s := s.setPolarity q) hrst, rfl, fun _ => rfl,
      fun hnot => absurd (.inl hrst) hnot, fun _ => rfl⟩
  | false =>
    have hstep := step_of_pins_not_rst hrst
    have hstep' : step (s.setPolarity q) = _ := step_of_pins_not_rst (s := s.setPolarity q) hrst
    rw [show (s.setPolarity q).pins = s.pins from rfl, afterTick_setPolarity s.pins hq] at hstep'
    by_cases hid : cmdId (presentedWord s.pins) = 3
    case pos =>
      rw [decodeCommand_of_cmdId_three hid, exec_setPolarity] at hstep hstep'
      exact ⟨_, _, hstep, hstep', rfl, fun _ => rfl, fun hnot => absurd ((writesPolarity_iff hrst).mpr hid) hnot,
        fun _ => rfl⟩
    case neg =>
      have hi := encodeCommand_presented s.pins
      obtain ⟨t, h⟩ := exec_answers_next (decodeCommand (presentedWord s.pins)) (afterTick s.pins s)
      obtain ⟨hmask, hpolarity, -⟩ := afterTick_sameConfig s.pins s
      have hkept : t.polarity = s.polarity := (exec_command_polarity hid h).trans hpolarity
      rw [h] at hstep
      rw [exec_command_setPolarity hi hid h] at hstep'
      refine ⟨t, _, hstep, hstep', rfl, fun hwrites => absurd ((writesPolarity_iff hrst).mp hwrites) hid,
        fun _ => ⟨hkept, rfl⟩, fun hnochange => ?_⟩
      have hmask' : t.mask = s.mask :=
        (exec_command_mask hi h (presentedWord_of_noMaskChange hrst hnochange)).trans hmask
      rw [hmask', hkept]
      exact hq

/-- `s` with other values in the latch and the two period registers. -/
def withLatchAndPeriod (c hi lo : Word) (s : State) : State := { s with cur := c, periodHi := hi, periodLo := lo }

variable {c hi lo : Word}

/-- A Sampler invocation overwrites the latch without reading it. -/
theorem sampler_withLatchAndPeriod (x : Word) (s : State) :
    (withLatchAndPeriod c hi lo s).sampler x = withLatchAndPeriod x hi lo (s.sampler x) := by
  cases hs : s.state with
  | armed =>
    by_cases hf : Fires x s
    · rw [sampler_of_fires hs hf, sampler_of_fires (s := withLatchAndPeriod c hi lo s) hs hf]; rfl
    · rw [sampler_of_not_fires hs hf, sampler_of_not_fires (s := withLatchAndPeriod c hi lo s) hs hf]; rfl
  | triggered =>
    by_cases hc : countUp s.postCounter = s.postCount
    · rw [sampler_of_window_met hs hc, sampler_of_window_met (s := withLatchAndPeriod c hi lo s) hs hc]; rfl
    · rw [sampler_of_window_not_met hs hc, sampler_of_window_not_met (s := withLatchAndPeriod c hi lo s) hs hc]; rfl
  | complete => rw [sampler_of_complete hs, sampler_of_complete (s := withLatchAndPeriod c hi lo s) hs]; rfl

/-- Every operation runs alike whatever these registers hold, and writes nothing else because of them. -/
theorem exec_withLatchAndPeriod (i : Instr) (h : exec i s = .next t) :
    ∃ c' hi' lo', exec i (withLatchAndPeriod c hi lo s) = .next (withLatchAndPeriod c' hi' lo' t) := by
  cases i with
  | start v =>
    refine ⟨c, hi, lo, ?_⟩
    by_cases hc : s.state = .complete
    · rw [exec_start_of_complete hc] at h
      rw [exec_start_of_complete (s := withLatchAndPeriod c hi lo s) hc]
      cases h
      rfl
    · rw [exec_start_of_not_complete hc] at h
      rw [exec_start_of_not_complete (s := withLatchAndPeriod c hi lo s) hc]
      cases h
      rfl
  | setMask v => cases h; exact ⟨c, hi, lo, by rw [exec_setMask]; cases maskAccepted v <;> rfl⟩
  | setPeriodHi v => cases h; exact ⟨c, v, lo, rfl⟩
  | setPeriodLo v => cases h; exact ⟨c, hi, v, rfl⟩
  | setWindow v => cases h; exact ⟨c, hi, lo, by rw [exec_setWindow]; cases windowAccepted v <;> rfl⟩
  | reset => cases h; exact ⟨_, _, _, rfl⟩
  | tick x =>
    obtain hr | hr := Bool.eq_false_or_eq_true s.run
    · rw [exec_tick_of_gate_open hr] at h
      rw [exec_tick_of_gate_open (s := withLatchAndPeriod c hi lo s) hr, sampler_withLatchAndPeriod]
      cases h
      exact ⟨x, hi, lo, rfl⟩
    · rw [exec_tick_of_gate_closed hr] at h
      rw [exec_tick_of_gate_closed (s := withLatchAndPeriod c hi lo s) hr]
      cases h
      exact ⟨c, hi, lo, rfl⟩
  | _ => cases h; exact ⟨c, hi, lo, rfl⟩

theorem execAll_withLatchAndPeriod (is : List Instr) (h : execAll is s = .next t) :
    ∃ c' hi' lo', execAll is (withLatchAndPeriod c hi lo s) = .next (withLatchAndPeriod c' hi' lo' t) := by
  induction is generalizing s c hi lo with
  | nil => cases h; exact ⟨c, hi, lo, rfl⟩
  | cons i rest ih =>
    obtain ⟨u, hu⟩ := exec_answers_next i s
    obtain ⟨_, _, _, hu'⟩ := exec_withLatchAndPeriod (c := c) (hi := hi) (lo := lo) i hu
    rw [execAll_cons hu']
    exact ih (execAll_cons hu ▸ h)

/-- Settles O43: neither the pins nor the gate is among these registers, so the two steps run the same operations. -/
theorem latchAndPeriodAreReadByNothing : Obligations.LatchAndPeriodAreReadByNothing := by
  intro s c hi lo
  obtain ⟨t, h⟩ := everyStepAnswersANextState.2 s
  obtain ⟨_, _, _, hu⟩ := execAll_withLatchAndPeriod (c := c) (hi := hi) (lo := lo) _ h
  exact ⟨t, _, h, hu, rfl⟩

end Sys2Proof.Proofs
end

section
/-! PROOF. Captures as runs (spec/42_sampler_tick.md R118, R119, spec/43_capture_controller.md R142,
spec/70_reset_and_hazards.md R209): the fire tick, ticks that count without meeting the window, and the tick that meets
it. -/

namespace Sys2Proof.Proofs

open Sys2Proof.Machine Sys2Proof.Safety

/-- Two runs, one after the other, make one run. -/
theorem reaches_trans (j k : Nat) : ∀ {s t u : State}, Reaches j s t → Reaches k t u → Reaches (j + k) s u := by
  induction j with
  | zero =>
    intro s t u h hk
    cases h
    rwa [Nat.zero_add]
  | succ j ih =>
    intro s t u h hk
    obtain ⟨v, hv⟩ := everyStepAnswersANextState.2 s
    rw [Nat.succ_add]
    exact reaches_succ hv (ih ((run_succ j hv).symm.trans h) hk)

theorem reaches_one {s t : State} (h : step s = .next t) : Reaches 1 s t := reaches_succ (k := 0) h rfl

theorem sameConfig_trans {s t u : State} (hst : SameConfig s t) (htu : SameConfig t u) : SameConfig s u := by
  unfold SameConfig at *
  simp [hst, htu]

theorem SameCapture.enterComplete {s t : State} (h : SameCapture s t) : SameCapture s.enterComplete t.enterComplete :=
  ⟨rfl, rfl, h.w, h.ring⟩

/-- What a run of ticks leaves: the capture of `c`, the settings of `s`, the count `n` and the queue `rest`. -/
structure CountedTo (n : Nat) (c s : State) (rest : List Pins) (t : State) : Prop where
  capture : SameCapture c t
  config : SameConfig s t
  count : t.postCounter.toNat = n
  inputs : t.inputs = rest

variable {s : State} {p : Pins} {rest : List Pins}

/-- The fire tick (R113). -/
theorem step_of_fire (hin : s.inputs = p :: rest) (hp : OnlyTick p) (ha : s.state = .armed) (hr : s.run = true)
    (hf : Fires p.sampleIn s) :
    ∃ u, step s = .next u ∧ CountedTo 0 ((s.trigger true).push p.sampleIn) s rest u := by
  have hread : SameCapture (s.trigger true)
      (((s.advance.driveReadPort (s.ringWord p.rdAddr)).latch p.sampleIn).trigger true) :=
    ⟨rfl, rfl, rfl, fun _ => rfl⟩
  refine ⟨_, step_of_onlyTick hin hp hr, ?_⟩
  rw [sampler_of_fires (s := s.advance.driveReadPort _) ha hf]
  exact ⟨hread.push p.sampleIn, ⟨rfl, rfl, rfl, rfl, rfl⟩, rfl, by simp [hin]⟩

/-- A tick in TRIGGERED that does not meet the window (R114). -/
theorem step_of_counting_tick (hin : s.inputs = p :: rest) (hp : OnlyTick p) (ht : s.state = .triggered)
    (hr : s.run = true) (hc : countUp s.postCounter ≠ s.postCount) :
    ∃ u, step s = .next u ∧ CountedTo (min (s.postCounter.toNat + 1) 2047) (s.push p.sampleIn) s rest u := by
  have hread : SameCapture s
      (((s.advance.driveReadPort (s.ringWord p.rdAddr)).latch p.sampleIn).setPostCounter (countUp s.postCounter)) :=
    ⟨rfl, rfl, rfl, fun _ => rfl⟩
  refine ⟨_, step_of_onlyTick hin hp hr, ?_⟩
  rw [sampler_of_window_not_met (s := s.advance.driveReadPort _) ht hc]
  exact ⟨hread.push p.sampleIn, ⟨rfl, rfl, rfl, rfl, rfl⟩, countUp_toNat s.postCounter, by simp [hin]⟩

/-- The tick that meets the window: its sample is pushed, and the capture is complete (R114, R116). -/
theorem step_of_completing_tick (hin : s.inputs = p :: rest) (hp : OnlyTick p) (ht : s.state = .triggered)
    (hr : s.run = true) (hc : countUp s.postCounter = s.postCount) :
    ∃ u, step s = .next u ∧ CountedTo s.postCount.toNat (s.enterComplete.push p.sampleIn) s rest u := by
  have hread : SameCapture s.enterComplete
      (((s.advance.driveReadPort (s.ringWord p.rdAddr)).latch p.sampleIn).setPostCounter
        (countUp s.postCounter)).enterComplete :=
    ⟨rfl, rfl, rfl, fun _ => rfl⟩
  refine ⟨_, step_of_onlyTick hin hp hr, ?_⟩
  rw [sampler_of_window_met (s := s.advance.driveReadPort _) ht hc]
  exact ⟨hread.push p.sampleIn, ⟨rfl, rfl, rfl, rfl, rfl⟩, congrArg BitVec.toNat hc, by simp [hin]⟩

/-- Any list of ticks in TRIGGERED none of which meets the window, by induction on the list. -/
theorem ticks_while_counting (ps rest : List Pins) : ∀ s : State, s.state = .triggered → s.run = true →
    s.inputs = ps ++ rest → (∀ p ∈ ps, OnlyTick p) →
    (∀ j, j < ps.length → min (s.postCounter.toNat + (j + 1)) 2047 ≠ s.postCount.toNat) →
    ∃ t, Reaches ps.length s t ∧
      CountedTo (min (s.postCounter.toNat + ps.length) 2047) (pushAll (ps.map Pins.sampleIn) s) s rest t := by
  induction ps with
  | nil =>
    intro s _ _ hin _ _
    have hlt := s.postCounter.isLt
    have hcount : s.postCounter.toNat = min (s.postCounter.toNat + 0) 2047 := by omega
    exact ⟨s, rfl, .refl s, ⟨rfl, rfl, rfl, rfl, rfl⟩, hcount, hin⟩
  | cons p ps ih =>
    intro s ht hr hin hps hwindow
    obtain ⟨hp, hps⟩ := List.forall_mem_cons.mp hps
    have hfirst : countUp s.postCounter ≠ s.postCount := mt (countUp_eq_iff _ _).mp (hwindow 0 (by simp))
    obtain ⟨u, hstep, hu⟩ := step_of_counting_tick hin hp ht hr hfirst
    have ⟨_, _, huwindow, _⟩ := hu.config
    have hwindow' : ∀ j, j < ps.length → min (u.postCounter.toNat + (j + 1)) 2047 ≠ u.postCount.toNat := by
      intro j hj
      have hnext := hwindow (j + 1) (by simpa using hj)
      rw [hu.count, huwindow]
      omega
    obtain ⟨t, hrun, hcapture, hconfig, hcount, hint⟩ :=
      ih u (hu.capture.state.trans ht) (hu.capture.run.trans hr) hu.inputs hps hwindow'
    have hcount' : t.postCounter.toNat = min (s.postCounter.toNat + (p :: ps).length) 2047 := by
      rw [hcount, hu.count, List.length_cons]
      omega
    exact ⟨t, reaches_succ hstep hrun, (hu.capture.pushAll _).trans hcapture, sameConfig_trans hu.config hconfig,
      hcount', hint⟩

/-- Settles O47: no count from the window on, nor the saturated one, is the window again. -/
theorem aPassedWindowNeverCompletes : Obligations.APassedWindowNeverCompletes := by
  intro s ps rest ht hr hpassed hbounded hin hps
  obtain ⟨t, hrun, hcapture, -, hcount, hrest⟩ :=
    ticks_while_counting ps rest s ht hr hin hps fun j _ => by omega
  have hstate : t.state = .triggered := by rw [hcapture.state, pushAll_state, ht]
  have hgate : t.run = true := by rw [hcapture.run, pushAll_run, hr]
  exact ⟨t, hrun, hstate, hgate, hcount, hrest, hcapture.ring, fun v => ⟨_, exec_stop t v, rfl, rfl⟩⟩

/-- The capture that the samples of a fire tick and of the ticks `ps` after it make. -/
def captured (s : State) (p : Pins) (ps : List Pins) : State :=
  pushAll ((p :: ps).map Pins.sampleIn) (s.trigger true)

theorem captured_state (s : State) (p : Pins) (ps : List Pins) : (captured s p ps).state = .triggered :=
  pushAll_state _ _

theorem captured_run (s : State) (p : Pins) (ps : List Pins) : (captured s p ps).run = s.run :=
  pushAll_run _ _

/-- The write index has advanced once for the fire sample and once for each later one. -/
theorem captured_w (s : State) (p : Pins) (ps : List Pins) :
    (captured s p ps).w = s.w + BitVec.ofNat 10 ps.length + 1#10 := by
  rw [captured, pushAll_w, List.length_map, List.length_cons, BitVec.ofNat_add, BitVec.add_assoc]
  rfl

/-- One more tick is one more PUSH. -/
theorem captured_concat (s : State) (p : Pins) (ps : List Pins) (q : Pins) :
    captured s p (ps ++ [q]) = (captured s p ps).push q.sampleIn := by
  simp [captured, pushAll]

/-- The fire sample stays unless 1024 samples came after it. -/
theorem captured_fire_sample {ps : List Pins} (h : ps.length ≤ 1023) :
    (captured s p ps).ringWord s.w = p.sampleIn := by
  have hsample := pushAll_ringWord_of_written ((p :: ps).map Pins.sampleIn) (s := s.trigger true) (j := 0) rfl
    (by rw [List.length_map, List.length_cons]; omega)
  rwa [BitVec.add_zero] at hsample

/-- The samples after the fire sample stand after it, in their order. -/
theorem captured_later_sample {ps : List Pins} {j : Nat} {q : Pins} (hq : ps[j]? = some q) (h : ps.length ≤ 1024) :
    (captured s p ps).ringWord (s.w + 1#10 + BitVec.ofNat 10 j) = q.sampleIn := by
  rw [index_succ_add]
  exact pushAll_ringWord_of_written ((p :: ps).map Pins.sampleIn) (s := s.trigger true) (by simp [hq])
    (by rw [List.length_map, List.length_cons]; omega)

/-- The words from the write index on are those before the capture. -/
theorem captured_other_word {ps : List Pins} {j : Nat} (hps : ps.length < j) (hj : j < 1024) :
    (captured s p ps).ringWord (s.w + BitVec.ofNat 10 j) = s.ringWord (s.w + BitVec.ofNat 10 j) := by
  refine pushAll_ringWord_of_not_written ((p :: ps).map Pins.sampleIn) (s := s.trigger true) fun i hi => ?_
  rw [List.length_map, List.length_cons] at hi
  rw [State.trigger_w, ne_eq, index_add_inj]
  omega

/-- A fire tick and fewer further ticks than the window has samples: the capture goes on (R118). -/
theorem capture_goes_on {ps : List Pins} (ha : s.state = .armed) (hr : s.run = true)
    (hbounded : s.postCount.toNat ≤ 1024) (hin : s.inputs = p :: ps ++ rest) (hlen : ps.length < s.postCount.toNat)
    (hps : ∀ q ∈ p :: ps, OnlyTick q) (hf : Fires p.sampleIn s) :
    ∃ u, Reaches (ps.length + 1) s u ∧ CountedTo ps.length (captured s p ps) s rest u := by
  obtain ⟨hp, hps⟩ := List.forall_mem_cons.mp hps
  obtain ⟨u, hstep, hu⟩ := step_of_fire hin hp ha hr hf
  have ⟨_, _, huwindow, _⟩ := hu.config
  have hwindow : ∀ j, j < ps.length → min (u.postCounter.toNat + (j + 1)) 2047 ≠ u.postCount.toNat := by
    intro j hj
    rw [hu.count, huwindow]
    omega
  obtain ⟨t, hrun, hcapture, hconfig, hcount, hint⟩ :=
    ticks_while_counting ps rest u hu.capture.state (hu.capture.run.trans hr) hu.inputs hps hwindow
  have hcount' : t.postCounter.toNat = ps.length := by
    rw [hcount, hu.count]
    omega
  exact ⟨t, reaches_succ hstep hrun, (hu.capture.pushAll _).trans hcapture, sameConfig_trans hu.config hconfig, hcount',
    hint⟩

/-- A fire tick and as many further ticks as the window has samples: the last one completes the capture (R118). -/
theorem capture_completes {ps : List Pins} (ha : s.state = .armed) (hr : s.run = true)
    (hpositive : 1 ≤ s.postCount.toNat) (hbounded : s.postCount.toNat ≤ 1024) (hin : s.inputs = p :: ps ++ rest)
    (hlen : ps.length = s.postCount.toNat) (hps : ∀ q ∈ p :: ps, OnlyTick q) (hf : Fires p.sampleIn s) :
    ∃ t, Reaches (ps.length + 1) s t ∧ CountedTo s.postCount.toNat (captured s p ps).enterComplete s rest t := by
  obtain rfl | ⟨init, q, rfl⟩ := List.eq_nil_or_concat' ps
  · exact absurd hlen (by simp; omega)
  rw [List.length_append, List.length_singleton] at hlen ⊢
  have hinit : ∀ r ∈ p :: init, OnlyTick r := fun r hr => hps r (by simp at hr ⊢; tauto)
  obtain ⟨u, hreach, hu⟩ := capture_goes_on (rest := q :: rest) ha hr hbounded (by simpa using hin) (by omega) hinit hf
  have ⟨_, _, huwindow, _⟩ := hu.config
  have hmet : countUp u.postCounter = u.postCount := by
    rw [countUp_eq_iff, hu.count, huwindow]
    omega
  obtain ⟨t, hstep, hcapture, hconfig, hcount, hint⟩ :=
    step_of_completing_tick hu.inputs (hps q (by simp)) (hu.capture.state.trans (captured_state s p init))
      (hu.capture.run.trans ((captured_run s p init).trans hr)) hmet
  refine ⟨t, reaches_trans _ 1 hreach (reaches_one hstep), ?_, sameConfig_trans hu.config hconfig,
    hcount.trans (congrArg BitVec.toNat huwindow), hint⟩
  rw [captured_concat]
  exact (hu.capture.enterComplete.push q.sampleIn).trans hcapture

/-- Settles O44: the ticks before the last leave the capture going on, the last completes it, and the ring is what the
PUSHes of all of them make. -/
theorem captureCompletesWithItsWindow : Obligations.CaptureCompletesWithItsWindow := by
  intro s p ps rest ha hr hpositive hbounded hin hlen hps hf
  refine ⟨fun k hk => ?before, ?completed⟩
  case before =>
    have hsplit : s.inputs = p :: ps.take k ++ (ps.drop k ++ rest) := by
      rw [hin, List.cons_append, List.cons_append, ← List.append_assoc, List.take_append_drop]
    have htake : (ps.take k).length = k := List.length_take_of_le hk.le
    have honly : ∀ q ∈ p :: ps.take k, OnlyTick q :=
      fun q hq => hps q (List.cons_subset_cons p (List.take_subset k ps) hq)
    obtain ⟨u, hreach, hcapture, -, hcount, -⟩ := capture_goes_on ha hr hbounded hsplit (by omega) honly hf
    rw [htake] at hreach hcount
    exact ⟨u, hreach, hcapture.state.trans (captured_state s p _),
      hcapture.run.trans ((captured_run s p _).trans hr), hcount⟩
  case completed =>
    obtain ⟨t, hreach, hcapture, hconfig, hcount, hrest⟩ :=
      capture_completes ha hr hpositive hbounded hin hlen hps hf
    have hw : t.w = s.w + BitVec.ofNat 10 s.postCount.toNat + 1#10 :=
      hcapture.w.trans (hlen ▸ captured_w s p ps)
    have hfire : t.w - BitVec.ofNat 10 s.postCount.toNat - 1 = s.w := by
      rw [hw]
      bv_omega
    refine ⟨t, hreach, hcapture.state, hcapture.run, BitVec.eq_of_toNat_eq hcount, hrest, hw, hconfig,
      fun j q hq => ?later, fun hwindow => ?fire, fun j hps hj => ?other⟩
    case later => exact (hcapture.ring _).trans (captured_later_sample hq (by omega))
    case fire =>
      rw [hfire]
      exact (hcapture.ring _).trans (captured_fire_sample (by omega))
    case other => exact (hcapture.ring _).trans (captured_other_word (by omega) hj)

/-- Settles O45: STOP writes the Capture State and the gate alone, so the capture it meets stays as it is. -/
theorem stopInTriggeredLeavesThePartialWindow : Obligations.StopInTriggeredLeavesThePartialWindow := by
  intro s v p q ps rest ha hr hbounded hin hlen hps hf hq hqtick
  obtain ⟨u, hreach, hcapture, -, hcount, hinu⟩ := capture_goes_on ha hr hbounded hin hlen hps hf
  have hstep := step_of_presents hinu hq
  rw [decodeCommand_stop, afterTick_of_not_gated (.inl hqtick), exec_stop] at hstep
  have hw : u.w = s.w + BitVec.ofNat 10 ps.length + 1#10 := hcapture.w.trans (captured_w s p ps)
  have hfire : u.w - BitVec.ofNat 10 ps.length - 1 = s.w := by
    rw [hw]
    bv_omega
  refine ⟨_, reaches_trans _ 1 hreach (reaches_one hstep), rfl, rfl, hcount, hw, ?fire, fun j r hr => ?later⟩
  case fire =>
    simp only [State.enterComplete_w, State.driveReadPort_w, State.advance_w, hfire]
    exact (hcapture.ring _).trans (captured_fire_sample (by omega))
  case later => exact (hcapture.ring _).trans (captured_later_sample hr (by omega))

end Sys2Proof.Proofs
end

section
/-! PROOF. The period registers along a run (spec/44_config_commands.md R159): the command with id 5 writes the one, the
command with id 6 the other, and nothing else but a reset writes either. -/

namespace Sys2Proof.Proofs

open Sys2Proof.Machine Sys2Proof.Safety

/-- `period_hi` after a cycle without reset that found it at `old`. -/
def periodHiAfter (p : Pins) (old : Word) : Word :=
  if cmdId (presentedWord p) = 5 then cmdValue (presentedWord p) else old

/-- `period_lo` after a cycle without reset that found it at `old`. -/
def periodLoAfter (p : Pins) (old : Word) : Word :=
  if cmdId (presentedWord p) = 6 then cmdValue (presentedWord p) else old

variable {s t : State}

/-- SET_PERIOD_HI is the command with id 5, and no other command writes `period_hi` (R30, R153). -/
theorem exec_command_periodHi {cw : CommandWord} (h : exec (decodeCommand cw) s = .next t) :
    t.periodHi = if cmdId cw = 5 then cmdValue cw else s.periodHi := by
  by_cases hid : cmdId cw = 5
  · rw [← commandWord_fields cw, hid, decodeCommand_setPeriodHi] at h
    cases h
    rw [if_pos hid]
    rfl
  · obtain ⟨-, -, -, -, hperiod, -⟩ := eachItemHasOnlyItsWriters _ s t h
    rw [if_neg hid]
    exact hperiod (fun v => decodeCommand_ne_of_cmdId_ne rfl (by rwa [cmdId_commandWord]))
      (decodeCommand_ne_of_no_encoding rfl cw)

/-- SET_PERIOD_LO is the command with id 6, and no other command writes `period_lo` (R31, R154). -/
theorem exec_command_periodLo {cw : CommandWord} (h : exec (decodeCommand cw) s = .next t) :
    t.periodLo = if cmdId cw = 6 then cmdValue cw else s.periodLo := by
  by_cases hid : cmdId cw = 6
  · rw [← commandWord_fields cw, hid, decodeCommand_setPeriodLo] at h
    cases h
    rw [if_pos hid]
    rfl
  · obtain ⟨-, -, -, -, -, hperiod, -⟩ := eachItemHasOnlyItsWriters _ s t h
    rw [if_neg hid]
    exact hperiod (fun v => decodeCommand_ne_of_cmdId_ne rfl (by rwa [cmdId_commandWord]))
      (decodeCommand_ne_of_no_encoding rfl cw)

theorem afterTick_inputs {p : Pins} {rest : List Pins} (hin : s.inputs = p :: rest) :
    (afterTick p s).inputs = rest := by
  obtain ⟨-, -, hinputs, -⟩ := sampler_frame p.sampleIn s
  unfold afterTick
  split
  · simp [hinputs, hin]
  · simp [hin]

/-- One cycle without reset, seen by the period registers. -/
theorem step_period {p : Pins} {rest : List Pins} (hin : s.inputs = p :: rest) (hrst : p.rst = false) :
    ∃ t, step s = .next t ∧ t.periodHi = periodHiAfter p s.periodHi ∧ t.periodLo = periodLoAfter p s.periodLo ∧
      t.inputs = rest := by
  obtain ⟨t, h⟩ := everyStepAnswersANextState.2 s
  have hexec := (step_of_inputs_not_rst hin hrst).symm.trans h
  obtain ⟨-, -, -, hhi, hlo⟩ := afterTick_sameConfig p s
  obtain ⟨-, -, -, -, -, -, -, -, -, -, hinputs, -⟩ := eachItemHasOnlyItsWriters _ _ t hexec
  refine ⟨t, h, ?_, ?_, hinputs.trans (afterTick_inputs hin)⟩
  · rw [exec_command_periodHi hexec, hhi, periodHiAfter]
  · rw [exec_command_periodLo hexec, hlo, periodLoAfter]

/-- A cycle with no period command leaves both registers alone. -/
theorem periodAfter_of_leavesPeriod {p : Pins} (hp : LeavesPeriod p) (old : Word) :
    periodHiAfter p old = old ∧ periodLoAfter p old = old := by
  obtain ⟨-, hcmd⟩ := hp
  refine ⟨if_neg fun hid => ?_, if_neg fun hid => ?_⟩
  · obtain ⟨hvalid, hid⟩ := command_of_cmdId_presentedWord (by decide) hid
    exact (hcmd hvalid).1 hid
  · obtain ⟨hvalid, hid⟩ := command_of_cmdId_presentedWord (by decide) hid
    exact (hcmd hvalid).2 hid

/-- Any list of cycles without reset and without period command, by induction on the list. -/
theorem cycles_keep_period (ps rest : List Pins) : ∀ s : State, s.inputs = ps ++ rest →
    (∀ p ∈ ps, LeavesPeriod p) →
    ∃ t, Reaches ps.length s t ∧ t.periodHi = s.periodHi ∧ t.periodLo = s.periodLo ∧ t.inputs = rest := by
  induction ps with
  | nil => exact fun s hin _ => ⟨s, rfl, rfl, rfl, hin⟩
  | cons p ps ih =>
    intro s hin hps
    obtain ⟨hp, hps⟩ := List.forall_mem_cons.mp hps
    obtain ⟨u, hstep, hhi, hlo, hinu⟩ := step_period hin hp.1
    obtain ⟨t, hrun, hhi', hlo', hint⟩ := ih u hinu hps
    refine ⟨t, reaches_succ hstep hrun, ?_, ?_, hint⟩
    · rw [hhi', hhi, (periodAfter_of_leavesPeriod hp _).1]
    · rw [hlo', hlo, (periodAfter_of_leavesPeriod hp _).2]

/-- A cycle without reset and then cycles that leave the period alone. -/
theorem run_period {p : Pins} {ps rest : List Pins} (hin : s.inputs = p :: (ps ++ rest)) (hrst : p.rst = false)
    (hps : ∀ q ∈ ps, LeavesPeriod q) :
    ∃ t, Reaches (ps.length + 1) s t ∧ t.periodHi = periodHiAfter p s.periodHi ∧
      t.periodLo = periodLoAfter p s.periodLo ∧ t.inputs = rest := by
  obtain ⟨u, hstep, hhi, hlo, hinu⟩ := step_period hin hrst
  obtain ⟨t, hrun, hhi', hlo', hint⟩ := cycles_keep_period ps rest u hinu hps
  exact ⟨t, reaches_succ hstep hrun, hhi'.trans hhi, hlo'.trans hlo, hint⟩

theorem presentedWord_of_presents {id v : Word} {p : Pins} (hp : Presents id v p) :
    presentedWord p = commandWord id v := by
  obtain ⟨-, hvalid, hword⟩ := hp
  rw [presentedWord_of_command hvalid, hword]

/-- Settles O49: each half is written by its own command, and the other command leaves it. -/
theorem periodRoundTrip : Obligations.PeriodRoundTrip := by
  intro s P a b mid after rest hin hleave horder
  have hmid : ∀ p ∈ mid, LeavesPeriod p := fun p hp => hleave p (List.mem_append_left after hp)
  have hafter : ∀ p ∈ after, LeavesPeriod p := fun p hp => hleave p (List.mem_append_right mid hp)
  have hrst : a.rst = false ∧ b.rst = false := by
    obtain ⟨ha, hb⟩ | ⟨ha, hb⟩ := horder <;> exact ⟨ha.1, hb.1⟩
  obtain ⟨u, hreach, hhi, hlo, hinu⟩ :=
    run_period (rest := b :: (after ++ rest)) (by simpa using hin) hrst.1 hmid
  obtain ⟨t, hreach', hhi', hlo', hint⟩ := run_period hinu hrst.2 hafter
  have hlength : mid.length + 1 + (after.length + 1) = mid.length + after.length + 2 := by omega
  have hhalves : t.periodHi = P.extractLsb' 16 16 ∧ t.periodLo = P.extractLsb' 0 16 := by
    rw [hhi', hlo', hhi, hlo]
    obtain ⟨ha, hb⟩ | ⟨ha, hb⟩ := horder <;>
      simp [periodHiAfter, periodLoAfter, presentedWord_of_presents ha, presentedWord_of_presents hb]
  refine ⟨t, hlength ▸ reaches_trans _ _ hreach hreach', hint, fun i => ?_⟩
  change periodOf t.periodHi t.periodLo = P
  rw [hhalves.1, hhalves.2]
  exact append_halves P

end Sys2Proof.Proofs
end
